-- ==== Sys2Proof/Word.lean ====
section
/-! DEFINITION. The word types of the MIA indexed-memory core (spec/00_scope.md rule R5, rule R9).
Every quantity of the block is unsigned; bit 0 is the least significant bit. -/

namespace Sys2Proof

/-- One byte: the bus data width and the byte size (rule R5, BUS_DATA_BITS). -/
abbrev Byte := BitVec 8

/-- A 24-bit offset into the backing store (rule R5, ADDR_BITS). -/
abbrev Addr := BitVec 24

/-- A 16-bit value: `irq.cause`, `irq.mask`, `dma.count` (rule R5). -/
abbrev Half := BitVec 16

/-- A bus transaction as one 17-bit word `{rw, addr[7:0], data[7:0]}` (rule R100). -/
abbrev BusWord := BitVec 17

/-- The number of a slot, 0 to 255 (rule R21). -/
abbrev SlotIx := BitVec 8

/-- The number of a wired window, A = 0 to D = 3: `addr[5:4]` of a window register (rule R102). -/
abbrev WindowNo := BitVec 2

end Sys2Proof
end

