-- ==== Sys2Proof/Config.lean ====
section
/-! DEFINITION. The parameters the source leaves open (spec/00_scope.md rule R6), as one plain
record. Every claim about a state holds for every value of the record that the state carries.
The values State.reset takes for them stand in Sys2Proof/Machine/Init.lean. -/

namespace Sys2Proof

/-- The 15 configuration fields that the source names (rule R107), in its order of enumeration. -/
inductive CfgField where
  | curL | curM | curH
  | defL | defM | defH
  | limL | limM | limH
  | step | flags
  | dmaSrc | dmaDst | dmaCountL | dmaCountH
deriving DecidableEq, Repr

/-- Parameter CFG_ID (rule R6, rule R107): the byte that names each configuration field. -/
structure CfgIds where
  curL : Byte
  curM : Byte
  curH : Byte
  defL : Byte
  defM : Byte
  defH : Byte
  limL : Byte
  limM : Byte
  limH : Byte
  step : Byte
  flags : Byte
  dmaSrc : Byte
  dmaDst : Byte
  dmaCountL : Byte
  dmaCountH : Byte
deriving DecidableEq, Repr

/-- What a slot of the factory layout serves (rule R363). `size` is the number of bytes of the region
that the slot points at. -/
inductive SlotRole where
  /-- a general-purpose user slot over a region of `size` bytes (rule R363 (c)) -/
  | user (size : Nat)
  /-- a functional region of the fixed size `size` (rule R363 (d)) -/
  | fixed (size : Nat)
  /-- a functional region that takes up `size` bytes but has no fixed size, and so no limit -/
  | unsized (size : Nat)
  /-- none: the layout assigns the slot nothing (rule R363 (a)) -/
  | unassigned
deriving DecidableEq, Repr

/-- The number of bytes that a slot of that role points at. -/
def SlotRole.size : SlotRole → Nat
  | .user n => n
  | .fixed n => n
  | .unsized n => n
  | .unassigned => 0

/-- One row of the factory layout (rule R44, rule R363 (a)): what initialisation puts into a slot,
and what the slot serves, on which the constraints of rule R363 depend. -/
structure LayoutEntry where
  role : SlotRole
  defaultAddress : Addr
  limitAddress : Addr
  step : Byte
  flags : Byte
deriving DecidableEq, Repr

/-- The open parameters of rule R6. DMA_ORDER is not here: the order of the byte moves is the order
in which the schedule of a state names them (log entry 1). -/
structure Config where
  /-- CAPACITY: the number of bytes of the backing store. -/
  capacity : Nat
  /-- FACTORY_LAYOUT: slot index to (default address, limit address, step, flags), with the role of
  the slot (log entry 30). -/
  layout : Vector LayoutEntry 256
  /-- OOB_READ_SENTINEL: what a DATA_PORT read returns out of bounds. -/
  oobReadSentinel : Byte
  /-- CFG_ID: the numbers of the configuration fields. -/
  cfgIds : CfgIds
  /-- FLAG_AUTO_STEP_BIT: the place of AUTO_STEP in a slot's `flags`. -/
  autoStepBit : Fin 8
  /-- FLAG_DIRECTION_BIT: the place of DIRECTION in a slot's `flags`. -/
  directionBit : Fin 8
  /-- FLAG_WRAP_BIT: the place of WRAP_ON_LIMIT in a slot's `flags`. -/
  wrapBit : Fin 8
  /-- STATUS_DMA_ERROR_BIT: the place of DMA_ERROR in DEVICE_STATUS. -/
  statusDmaErrorBit : Fin 8
  /-- COPY_OOB_RAISES_MEMORY_ERROR: whether an out-of-bounds copy also raises MemoryError. -/
  copyOobRaisesMemoryError : Bool
deriving DecidableEq, Repr

end Sys2Proof
end

