-- ==== Sys2Proof/Syntax.lean ====
section
/-! DEFINITION. The instructions: one constructor per row of spec/opcode_table.json, 40 rows of
format BUS (a bus transaction, spec/30_encoding.md rule R100, rule R114) and 16 rows of format CFG
(the configuration field a CFG_DATA transaction consults, rule R107, rule R113). -/

namespace Sys2Proof

/-- How a CFG row is consulted: by a read of CFG_DATA (`GET_CFG`) or by a write of one byte to it
(`SET_CFG`) (spec/41_config_fields.md rule R150). -/
inductive CfgAccess where
  /-- `GET_CFG`: the row was consulted by RD.CFG_DATA -/
  | get
  /-- `SET_CFG` of the byte `b`: the row was consulted by WR.CFG_DATA -/
  | set (b : Byte)
deriving DecidableEq, Repr

/-- The operations a decoder can select (rule R113). `w` is the window's number, `b` the byte a
write carries, `c` an unknown command code, `off` a register offset within a window, `low` the six
address bits below the reserved windows' `01`, `sreg` a shared register's number, `a` the access
that consults a CFG row and `f` an unknown field id. -/
inductive Instr where
  -- window registers
  | rdIdxSelect (w : WindowNo)
  | wrIdxSelect (w : WindowNo) (b : Byte)
  | rdDataPort (w : WindowNo)
  | wrDataPort (w : WindowNo) (b : Byte)
  | rdCfgFieldSelect (w : WindowNo)
  | wrCfgFieldSelect (w : WindowNo) (b : Byte)
  | rdCfgData (w : WindowNo)
  | wrCfgData (w : WindowNo) (b : Byte)
  | rdCommand (w : WindowNo)
  -- window commands
  | wcmdNop (w : WindowNo)
  | wcmdResetIndex (w : WindowNo)
  | wcmdSetDefaultToAddr (w : WindowNo)
  | wcmdSetLimitToAddr (w : WindowNo)
  | wcmdUnknown (w : WindowNo) (c : Byte)
  -- reserved window space
  | rdWReserved (w : WindowNo) (off : BitVec 4)
  | wrWReserved (w : WindowNo) (off : BitVec 4) (b : Byte)
  | rdWinReserved (low : BitVec 6)
  | wrWinReserved (low : BitVec 6) (b : Byte)
  -- shared registers
  | rdDeviceStatus
  | wrDeviceStatus (b : Byte)
  | rdIrqCauseLow
  | wrIrqCauseLow (b : Byte)
  | rdIrqCauseHigh
  | wrIrqCauseHigh (b : Byte)
  | rdIrqMaskLow
  | wrIrqMaskLow (b : Byte)
  | rdIrqMaskHigh
  | wrIrqMaskHigh (b : Byte)
  | rdIrqEnable
  | wrIrqEnable (b : Byte)
  | rdSharedCommand
  -- shared commands
  | scmdNop
  | scmdResetAll
  | scmdFactoryReset
  | scmdClearIrq
  | scmdCopyBlock
  | scmdSystemReset
  | scmdUnknown (c : Byte)
  -- reserved shared space
  | rdSReserved (sreg : BitVec 7)
  | wrSReserved (sreg : BitVec 7) (b : Byte)
  -- configuration fields
  | cfgCurL (w : WindowNo) (a : CfgAccess)
  | cfgCurM (w : WindowNo) (a : CfgAccess)
  | cfgCurH (w : WindowNo) (a : CfgAccess)
  | cfgDefL (w : WindowNo) (a : CfgAccess)
  | cfgDefM (w : WindowNo) (a : CfgAccess)
  | cfgDefH (w : WindowNo) (a : CfgAccess)
  | cfgLimL (w : WindowNo) (a : CfgAccess)
  | cfgLimM (w : WindowNo) (a : CfgAccess)
  | cfgLimH (w : WindowNo) (a : CfgAccess)
  | cfgStep (w : WindowNo) (a : CfgAccess)
  | cfgFlags (w : WindowNo) (a : CfgAccess)
  | cfgDmaSrc (w : WindowNo) (a : CfgAccess)
  | cfgDmaDst (w : WindowNo) (a : CfgAccess)
  | cfgDmaCountL (w : WindowNo) (a : CfgAccess)
  | cfgDmaCountH (w : WindowNo) (a : CfgAccess)
  | cfgUnknown (w : WindowNo) (a : CfgAccess) (f : Byte)
deriving DecidableEq, Repr

end Sys2Proof
end

