-- ==== Sys2Proof/WellFormed.lean ====
section
/-! DEFINITION. Which configurations and which instructions are well formed: the constraint column
of spec/00_scope.md rule R6, and the ranges that spec/30_encoding.md gives the operands of the
catch-all rows. -/

namespace Sys2Proof

/-- All 15 field names, in the source's order of enumeration (rule R107). -/
def CfgField.all : List CfgField :=
  [.curL, .curM, .curH, .defL, .defM, .defH, .limL, .limM, .limH, .step, .flags,
   .dmaSrc, .dmaDst, .dmaCountL, .dmaCountH]

/-- `CFG_ID(x)`: the number that names the field `x` (rule R107). -/
def CfgIds.idOf (ids : CfgIds) : CfgField → Byte
  | .curL => ids.curL
  | .curM => ids.curM
  | .curH => ids.curH
  | .defL => ids.defL
  | .defM => ids.defM
  | .defH => ids.defH
  | .limL => ids.limL
  | .limM => ids.limM
  | .limH => ids.limH
  | .step => ids.step
  | .flags => ids.flags
  | .dmaSrc => ids.dmaSrc
  | .dmaDst => ids.dmaDst
  | .dmaCountL => ids.dmaCountL
  | .dmaCountH => ids.dmaCountH

/-- CFG_ID is injective (rule R6). -/
abbrev CfgIds.wf (ids : CfgIds) : Prop := (CfgField.all.map ids.idOf).Nodup

/-- The constraint column of rule R6 for every parameter but FACTORY_LAYOUT. -/
abbrev Config.numbersWf (c : Config) : Prop :=
  1 ≤ c.capacity ∧ c.capacity ≤ 2 ^ 24 ∧
  (c.oobReadSentinel = 0x00#8 ∨ c.oobReadSentinel = 0xFF#8) ∧
  c.cfgIds.wf ∧
  (c.autoStepBit ≠ c.directionBit ∧ c.autoStepBit ≠ c.wrapBit ∧ c.directionBit ≠ c.wrapBit) ∧
  (c.statusDmaErrorBit = 0 ∨ c.statusDmaErrorBit = 3 ∨
    c.statusDmaErrorBit = 4 ∨ c.statusDmaErrorBit = 5)

/-- What one row of the layout must satisfy (rule R363 (a), (c) and (d)). What the layout does not
assign is 0: the limit of a slot whose region has no fixed size, and all of a slot with no role
(log entry 30). -/
def LayoutEntry.wf (c : Config) (e : LayoutEntry) : Bool :=
  match e.role with
  | .user n =>
      decide (1 ≤ n) && e.limitAddress == 0x000000#24 &&
      e.flags.getLsbD c.autoStepBit && !e.flags.getLsbD c.wrapBit
  | .fixed n =>
      decide (1 ≤ n) && e.limitAddress.toNat == e.defaultAddress.toNat + n &&
      e.flags.getLsbD c.wrapBit
  | .unsized n => decide (1 ≤ n) && e.limitAddress == 0x000000#24
  | .unassigned =>
      e.defaultAddress == 0x000000#24 && e.limitAddress == 0x000000#24 &&
      e.step == 0x00#8 && e.flags == 0x00#8

/-- Whether a slot is a general-purpose user slot. -/
def LayoutEntry.isUser (e : LayoutEntry) : Bool :=
  match e.role with
  | .user _ => true
  | .fixed _ => false
  | .unsized _ => false
  | .unassigned => false

/-- The offset one past the end of the region a slot points at. -/
def LayoutEntry.regionEnd (e : LayoutEntry) : Nat := e.defaultAddress.toNat + e.role.size

/-- The regions that two slots point at have no byte in common (rule R363 (e)); a slot with no role
points at none. -/
def LayoutEntry.disjoint (e f : LayoutEntry) : Bool :=
  e.role == .unassigned || f.role == .unassigned ||
  decide (e.regionEnd ≤ f.defaultAddress.toNat) || decide (f.regionEnd ≤ e.defaultAddress.toNat)

/-- The constraints on FACTORY_LAYOUT (rule R363): every row is well formed, exactly 128 slots are
user slots, and the regions are pairwise disjoint. (b) holds by construction: initialisation puts
the default address into `cur` too (rule R44). -/
abbrev Config.layoutWf (c : Config) : Prop :=
  (∀ e ∈ c.layout.toList, e.wf c = true) ∧
  c.layout.toList.countP LayoutEntry.isUser = 128 ∧
  c.layout.toList.Pairwise (fun e f => e.disjoint f = true)

/-- The layout is usable: its regions lie inside the store (rule R363 (e)). The spec does not ask
for it: a layout with a region outside the store is legal. -/
abbrev Config.layoutUsable (c : Config) : Prop :=
  ∀ e ∈ c.layout.toList, e.regionEnd ≤ c.capacity

/-- The parameters are admissible: the constraint column of rule R6, for FACTORY_LAYOUT rule R363. -/
abbrev Config.wf (c : Config) : Prop := c.numbersWf ∧ c.layoutWf

/-- A shared register's number that no rule assigns: 0x00 to 0x6F and 0x76 to 0x7E (rule R103). -/
def sregReserved (sreg : BitVec 7) : Bool :=
  sreg.toNat < 0x70 || (0x76 ≤ sreg.toNat && sreg.toNat < 0x7F)

/-- The operand ranges of the rows (rule R104, rule R105, rule R106, rule R107). A row that is not
a catch-all admits every operand. `ids` is the numbering of the configuration fields, on which the
row CFG.UNKNOWN depends (rule R166). -/
def Instr.wf (ids : CfgIds) : Instr → Bool
  | .rdIdxSelect _ => true
  | .wrIdxSelect _ _ => true
  | .rdDataPort _ => true
  | .wrDataPort _ _ => true
  | .rdCfgFieldSelect _ => true
  | .wrCfgFieldSelect _ _ => true
  | .rdCfgData _ => true
  | .wrCfgData _ _ => true
  | .rdCommand _ => true
  | .wcmdNop _ => true
  | .wcmdResetIndex _ => true
  | .wcmdSetDefaultToAddr _ => true
  | .wcmdSetLimitToAddr _ => true
  | .wcmdUnknown _ c => decide (4 ≤ c.toNat)
  | .rdWReserved _ off => decide (5 ≤ off.toNat)
  | .wrWReserved _ off _ => decide (5 ≤ off.toNat)
  | .rdWinReserved _ => true
  | .wrWinReserved _ _ => true
  | .rdDeviceStatus => true
  | .wrDeviceStatus _ => true
  | .rdIrqCauseLow => true
  | .wrIrqCauseLow _ => true
  | .rdIrqCauseHigh => true
  | .wrIrqCauseHigh _ => true
  | .rdIrqMaskLow => true
  | .wrIrqMaskLow _ => true
  | .rdIrqMaskHigh => true
  | .wrIrqMaskHigh _ => true
  | .rdIrqEnable => true
  | .wrIrqEnable _ => true
  | .rdSharedCommand => true
  | .scmdNop => true
  | .scmdResetAll => true
  | .scmdFactoryReset => true
  | .scmdClearIrq => true
  | .scmdCopyBlock => true
  | .scmdSystemReset => true
  | .scmdUnknown c => decide (6 ≤ c.toNat)
  | .rdSReserved sreg => sregReserved sreg
  | .wrSReserved sreg _ => sregReserved sreg
  | .cfgCurL _ _ => true
  | .cfgCurM _ _ => true
  | .cfgCurH _ _ => true
  | .cfgDefL _ _ => true
  | .cfgDefM _ _ => true
  | .cfgDefH _ _ => true
  | .cfgLimL _ _ => true
  | .cfgLimM _ _ => true
  | .cfgLimH _ _ => true
  | .cfgStep _ _ => true
  | .cfgFlags _ _ => true
  | .cfgDmaSrc _ _ => true
  | .cfgDmaDst _ _ => true
  | .cfgDmaCountL _ _ => true
  | .cfgDmaCountH _ _ => true
  | .cfgUnknown _ _ f => decide (f ∉ CfgField.all.map ids.idOf)

end Sys2Proof
end

