-- ==== Sys2Proof/Decode.lean ====
section
/-! DEFINITION. The decoder and the encoder (spec/30_encoding.md, spec/45_bus_decode.md rule R240
to rule R242). A bus transaction is the 17-bit word of rule R100 and every one of its 2^17 values
decodes (rule R112). As bytes a word is laid out least significant byte first in three bytes whose
top seven bits are 0; a CFG row is laid out as the CFG_DATA transaction that consults it, followed
by the byte of the field id (log entry 6, log entry 7). -/

namespace Sys2Proof

/-! ### The fields of a transaction word (rule R100) -/

/-- `rw`, bit 16: true for a write. -/
def busRw (T : BusWord) : Bool := T.getLsbD 16

/-- `addr`, bits 15:8. -/
def busAddr (T : BusWord) : Byte := T.extractLsb' 8 8

/-- `data`, bits 7:0. -/
def busData (T : BusWord) : Byte := T.extractLsb' 0 8

/-- The word of a transaction, `{rw, addr, data}`. -/
def busWord (rw : Bool) (addr data : Byte) : BusWord := BitVec.ofBool rw ++ addr ++ data

/-- The canonical form of a word: a read carries 0x00 in the data bits that it ignores (rule R100). -/
def canonicalWord (T : BusWord) : BusWord :=
  if busRw T then T else busWord false (busAddr T) 0x00#8

/-! ### The bus address (rule R101, rule R242) -/

/-- What an address decodes to (rule R242). -/
inductive Target where
  /-- window space: the 3-bit window number and the 4-bit register offset -/
  | window (w : BitVec 3) (off : BitVec 4)
  /-- shared space: the 7-bit shared register number -/
  | shared (sreg : BitVec 7)
deriving DecidableEq, Repr

/-- `decode(addr)` of rule R242: a function of the eight address bits alone. -/
def decodeAddr (addr : Byte) : Target :=
  if addr.getLsbD 7 then .shared (addr.extractLsb' 0 7)
  else .window (addr.extractLsb' 4 3) (addr.extractLsb' 0 4)

/-- The bus address `16w + off` of a register of a wired window (rule R102). -/
def windowAddr (w : WindowNo) (off : BitVec 4) : Byte := 0#2 ++ w ++ off

/-- The bus address `0x40 + low` of the reserved windows E to H (rule R104). -/
def reservedWindowAddr (low : BitVec 6) : Byte := 1#2 ++ low

/-- The bus address of a shared register (rule R101). -/
def sharedAddr (sreg : BitVec 7) : Byte := 1#1 ++ sreg

/-! ### The register maps and the command codes (rule R102, rule R103, rule R105, rule R106) -/

/-- The reads of a wired window (rule R240). -/
def decodeWindowRead (w : WindowNo) (off : BitVec 4) : Instr :=
  if off = 0#4 then .rdIdxSelect w
  else if off = 1#4 then .rdDataPort w
  else if off = 2#4 then .rdCfgFieldSelect w
  else if off = 3#4 then .rdCfgData w
  else if off = 4#4 then .rdCommand w
  else .rdWReserved w off

/-- The window command codes (rule R105). -/
def decodeWindowCommand (w : WindowNo) (c : Byte) : Instr :=
  if c = 0x00#8 then .wcmdNop w
  else if c = 0x01#8 then .wcmdResetIndex w
  else if c = 0x02#8 then .wcmdSetDefaultToAddr w
  else if c = 0x03#8 then .wcmdSetLimitToAddr w
  else .wcmdUnknown w c

/-- The writes of a wired window (rule R241). -/
def decodeWindowWrite (w : WindowNo) (off : BitVec 4) (b : Byte) : Instr :=
  if off = 0#4 then .wrIdxSelect w b
  else if off = 1#4 then .wrDataPort w b
  else if off = 2#4 then .wrCfgFieldSelect w b
  else if off = 3#4 then .wrCfgData w b
  else if off = 4#4 then decodeWindowCommand w b
  else .wrWReserved w off b

/-- The reads of the shared space (rule R103, rule R240). -/
def decodeSharedRead (sreg : BitVec 7) : Instr :=
  if sreg = 0x70#7 then .rdDeviceStatus
  else if sreg = 0x71#7 then .rdIrqCauseLow
  else if sreg = 0x72#7 then .rdIrqCauseHigh
  else if sreg = 0x73#7 then .rdIrqMaskLow
  else if sreg = 0x74#7 then .rdIrqMaskHigh
  else if sreg = 0x75#7 then .rdIrqEnable
  else if sreg = 0x7F#7 then .rdSharedCommand
  else .rdSReserved sreg

/-- The shared command codes (rule R106). -/
def decodeSharedCommand (c : Byte) : Instr :=
  if c = 0x00#8 then .scmdNop
  else if c = 0x01#8 then .scmdResetAll
  else if c = 0x02#8 then .scmdFactoryReset
  else if c = 0x03#8 then .scmdClearIrq
  else if c = 0x04#8 then .scmdCopyBlock
  else if c = 0x05#8 then .scmdSystemReset
  else .scmdUnknown c

/-- The writes of the shared space (rule R103, rule R241). -/
def decodeSharedWrite (sreg : BitVec 7) (b : Byte) : Instr :=
  if sreg = 0x70#7 then .wrDeviceStatus b
  else if sreg = 0x71#7 then .wrIrqCauseLow b
  else if sreg = 0x72#7 then .wrIrqCauseHigh b
  else if sreg = 0x73#7 then .wrIrqMaskLow b
  else if sreg = 0x74#7 then .wrIrqMaskHigh b
  else if sreg = 0x75#7 then .wrIrqEnable b
  else if sreg = 0x7F#7 then decodeSharedCommand b
  else .wrSReserved sreg b

/-- The operation of a direction, a decoded address and a data byte (rule R240, rule R241). -/
def decodeTransaction (rw : Bool) (target : Target) (data : Byte) : Instr :=
  match target with
  | .shared sreg => if rw then decodeSharedWrite sreg data else decodeSharedRead sreg
  | .window w off =>
      if w.toNat < 4 then
        if rw then decodeWindowWrite (w.setWidth 2) off data
        else decodeWindowRead (w.setWidth 2) off
      else if rw then .wrWinReserved (w.setWidth 2 ++ off) data
      else .rdWinReserved (w.setWidth 2 ++ off)

/-- The BUS row a transaction word selects. It is total: every word has a row (rule R112). -/
def decodeBus (T : BusWord) : Instr :=
  decodeTransaction (busRw T) (decodeAddr (busAddr T)) (busData T)

/-! ### Configuration fields (rule R107, rule R167) -/

/-- The field that the byte `f` names, if any (rule R167). -/
def CfgIds.fieldOf (ids : CfgIds) (f : Byte) : Option CfgField :=
  CfgField.all.find? (fun x => ids.idOf x == f)

/-- The CFG row that a field id selects, consulted through window `w` by the access `a`
(rule R113, rule R167). -/
def decodeCfg (ids : CfgIds) (w : WindowNo) (a : CfgAccess) (f : Byte) : Instr :=
  match ids.fieldOf f with
  | some .curL => .cfgCurL w a
  | some .curM => .cfgCurM w a
  | some .curH => .cfgCurH w a
  | some .defL => .cfgDefL w a
  | some .defM => .cfgDefM w a
  | some .defH => .cfgDefH w a
  | some .limL => .cfgLimL w a
  | some .limM => .cfgLimM w a
  | some .limH => .cfgLimH w a
  | some .step => .cfgStep w a
  | some .flags => .cfgFlags w a
  | some .dmaSrc => .cfgDmaSrc w a
  | some .dmaDst => .cfgDmaDst w a
  | some .dmaCountL => .cfgDmaCountL w a
  | some .dmaCountH => .cfgDmaCountH w a
  | none => .cfgUnknown w a f

/-- The default CFG_ID map, 0x00 to 0x0E in the source's order of enumeration (rule R107). The CFG
rows of spec/opcode_table.json are numbered by it. -/
def defaultCfgIds : CfgIds where
  curL := 0x00#8
  curM := 0x01#8
  curH := 0x02#8
  defL := 0x03#8
  defM := 0x04#8
  defH := 0x05#8
  limL := 0x06#8
  limM := 0x07#8
  limH := 0x08#8
  step := 0x09#8
  flags := 0x0A#8
  dmaSrc := 0x0B#8
  dmaDst := 0x0C#8
  dmaCountL := 0x0D#8
  dmaCountH := 0x0E#8

/-! ### Bytes -/

/-- Why bytes are not an instruction. None of these is an encoding of the block: a word of the bus
has 17 bits and every value of it decodes (rule R112). -/
inductive Reject where
  /-- neither three bytes (a transaction) nor four (a CFG_DATA transaction and a field id) -/
  | wrongLength
  /-- bits 23:17 of the three bytes are not all 0, so they hold no 17-bit word -/
  | notATransactionWord
  /-- a field id follows a transaction that is no access of CFG_DATA (rule R113) -/
  | notACfgDataAccess
deriving DecidableEq, Repr

/-- A transaction word as bytes, least significant byte first. -/
def wordBytes (T : BusWord) : List Byte :=
  [T.extractLsb' 0 8, T.extractLsb' 8 8, (T.extractLsb' 16 1).setWidth 8]

/-- The transaction word that three bytes hold, if bits 23:17 are 0. -/
def wordOfBytes (b0 b1 b2 : Byte) : Except Reject BusWord :=
  if b2.toNat < 2 then .ok (b2.setWidth 1 ++ b1 ++ b0) else .error .notATransactionWord

/-- The CFG row that a transaction and a field id select together (rule R113). -/
def decodeCfgWord (ids : CfgIds) (T : BusWord) (f : Byte) : Except Reject Instr :=
  match decodeBus T with
  | .rdCfgData w => .ok (decodeCfg ids w .get f)
  | .wrCfgData w b => .ok (decodeCfg ids w (.set b) f)
  | _ => .error .notACfgDataAccess

/-- The decoder on bytes, total on any list of them. -/
def decode (ids : CfgIds) : List Byte → Except Reject Instr
  | [b0, b1, b2] => (wordOfBytes b0 b1 b2).map decodeBus
  | [b0, b1, b2, f] => (wordOfBytes b0 b1 b2).bind (fun T => decodeCfgWord ids T f)
  | _ => .error .wrongLength

/-- The transaction that consults a CFG row through window `w` (rule R266, rule R267). -/
def cfgDataWord (w : WindowNo) : CfgAccess → BusWord
  | .get => busWord false (windowAddr w 3#4) 0x00#8
  | .set b => busWord true (windowAddr w 3#4) b

/-- The transaction word of an instruction (rule R114); for a CFG row the CFG_DATA transaction that
consults it. A read carries 0x00 as its data, the canonical form of rule R100. -/
def Instr.word : Instr → BusWord
  | .rdIdxSelect w => busWord false (windowAddr w 0#4) 0x00#8
  | .wrIdxSelect w b => busWord true (windowAddr w 0#4) b
  | .rdDataPort w => busWord false (windowAddr w 1#4) 0x00#8
  | .wrDataPort w b => busWord true (windowAddr w 1#4) b
  | .rdCfgFieldSelect w => busWord false (windowAddr w 2#4) 0x00#8
  | .wrCfgFieldSelect w b => busWord true (windowAddr w 2#4) b
  | .rdCfgData w => busWord false (windowAddr w 3#4) 0x00#8
  | .wrCfgData w b => busWord true (windowAddr w 3#4) b
  | .rdCommand w => busWord false (windowAddr w 4#4) 0x00#8
  | .wcmdNop w => busWord true (windowAddr w 4#4) 0x00#8
  | .wcmdResetIndex w => busWord true (windowAddr w 4#4) 0x01#8
  | .wcmdSetDefaultToAddr w => busWord true (windowAddr w 4#4) 0x02#8
  | .wcmdSetLimitToAddr w => busWord true (windowAddr w 4#4) 0x03#8
  | .wcmdUnknown w c => busWord true (windowAddr w 4#4) c
  | .rdWReserved w off => busWord false (windowAddr w off) 0x00#8
  | .wrWReserved w off b => busWord true (windowAddr w off) b
  | .rdWinReserved low => busWord false (reservedWindowAddr low) 0x00#8
  | .wrWinReserved low b => busWord true (reservedWindowAddr low) b
  | .rdDeviceStatus => busWord false 0xF0#8 0x00#8
  | .wrDeviceStatus b => busWord true 0xF0#8 b
  | .rdIrqCauseLow => busWord false 0xF1#8 0x00#8
  | .wrIrqCauseLow b => busWord true 0xF1#8 b
  | .rdIrqCauseHigh => busWord false 0xF2#8 0x00#8
  | .wrIrqCauseHigh b => busWord true 0xF2#8 b
  | .rdIrqMaskLow => busWord false 0xF3#8 0x00#8
  | .wrIrqMaskLow b => busWord true 0xF3#8 b
  | .rdIrqMaskHigh => busWord false 0xF4#8 0x00#8
  | .wrIrqMaskHigh b => busWord true 0xF4#8 b
  | .rdIrqEnable => busWord false 0xF5#8 0x00#8
  | .wrIrqEnable b => busWord true 0xF5#8 b
  | .rdSharedCommand => busWord false 0xFF#8 0x00#8
  | .scmdNop => busWord true 0xFF#8 0x00#8
  | .scmdResetAll => busWord true 0xFF#8 0x01#8
  | .scmdFactoryReset => busWord true 0xFF#8 0x02#8
  | .scmdClearIrq => busWord true 0xFF#8 0x03#8
  | .scmdCopyBlock => busWord true 0xFF#8 0x04#8
  | .scmdSystemReset => busWord true 0xFF#8 0x05#8
  | .scmdUnknown c => busWord true 0xFF#8 c
  | .rdSReserved sreg => busWord false (sharedAddr sreg) 0x00#8
  | .wrSReserved sreg b => busWord true (sharedAddr sreg) b
  | .cfgCurL w a => cfgDataWord w a
  | .cfgCurM w a => cfgDataWord w a
  | .cfgCurH w a => cfgDataWord w a
  | .cfgDefL w a => cfgDataWord w a
  | .cfgDefM w a => cfgDataWord w a
  | .cfgDefH w a => cfgDataWord w a
  | .cfgLimL w a => cfgDataWord w a
  | .cfgLimM w a => cfgDataWord w a
  | .cfgLimH w a => cfgDataWord w a
  | .cfgStep w a => cfgDataWord w a
  | .cfgFlags w a => cfgDataWord w a
  | .cfgDmaSrc w a => cfgDataWord w a
  | .cfgDmaDst w a => cfgDataWord w a
  | .cfgDmaCountL w a => cfgDataWord w a
  | .cfgDmaCountH w a => cfgDataWord w a
  | .cfgUnknown w a _ => cfgDataWord w a

/-- The field id of a CFG row under a CFG_ID map; none for a BUS row (rule R107). -/
def Instr.fieldId (ids : CfgIds) : Instr → Option Byte
  | .cfgCurL _ _ => some ids.curL
  | .cfgCurM _ _ => some ids.curM
  | .cfgCurH _ _ => some ids.curH
  | .cfgDefL _ _ => some ids.defL
  | .cfgDefM _ _ => some ids.defM
  | .cfgDefH _ _ => some ids.defH
  | .cfgLimL _ _ => some ids.limL
  | .cfgLimM _ _ => some ids.limM
  | .cfgLimH _ _ => some ids.limH
  | .cfgStep _ _ => some ids.step
  | .cfgFlags _ _ => some ids.flags
  | .cfgDmaSrc _ _ => some ids.dmaSrc
  | .cfgDmaDst _ _ => some ids.dmaDst
  | .cfgDmaCountL _ _ => some ids.dmaCountL
  | .cfgDmaCountH _ _ => some ids.dmaCountH
  | .cfgUnknown _ _ f => some f
  | .rdIdxSelect _ => none
  | .wrIdxSelect _ _ => none
  | .rdDataPort _ => none
  | .wrDataPort _ _ => none
  | .rdCfgFieldSelect _ => none
  | .wrCfgFieldSelect _ _ => none
  | .rdCfgData _ => none
  | .wrCfgData _ _ => none
  | .rdCommand _ => none
  | .wcmdNop _ => none
  | .wcmdResetIndex _ => none
  | .wcmdSetDefaultToAddr _ => none
  | .wcmdSetLimitToAddr _ => none
  | .wcmdUnknown _ _ => none
  | .rdWReserved _ _ => none
  | .wrWReserved _ _ _ => none
  | .rdWinReserved _ => none
  | .wrWinReserved _ _ => none
  | .rdDeviceStatus => none
  | .wrDeviceStatus _ => none
  | .rdIrqCauseLow => none
  | .wrIrqCauseLow _ => none
  | .rdIrqCauseHigh => none
  | .wrIrqCauseHigh _ => none
  | .rdIrqMaskLow => none
  | .wrIrqMaskLow _ => none
  | .rdIrqMaskHigh => none
  | .wrIrqMaskHigh _ => none
  | .rdIrqEnable => none
  | .wrIrqEnable _ => none
  | .rdSharedCommand => none
  | .scmdNop => none
  | .scmdResetAll => none
  | .scmdFactoryReset => none
  | .scmdClearIrq => none
  | .scmdCopyBlock => none
  | .scmdSystemReset => none
  | .scmdUnknown _ => none
  | .rdSReserved _ => none
  | .wrSReserved _ _ => none

/-- The encoder: the bytes of a well-formed instruction. -/
def encode (ids : CfgIds) (i : Instr) : List Byte :=
  wordBytes i.word ++ (i.fieldId ids).toList

/-- The instruction the decoder reads from a word of spec/opcode_table.json. A word of at most 8
bits is a CFG row's field id, laid out after the transaction that consults it (the read of window
A's CFG_DATA); a longer one is a transaction word. The numbering of the field ids is the table's,
the default CFG_ID map. -/
def decodeTableWord (nbits w : Nat) : Option Instr :=
  let bytes : List Byte :=
    if nbits ≤ 8 then wordBytes (cfgDataWord 0#2 .get) ++ [BitVec.ofNat 8 w]
    else [BitVec.ofNat 8 w, BitVec.ofNat 8 (w / 2 ^ 8), BitVec.ofNat 8 (w / 2 ^ 16)]
  if w < 2 ^ nbits ∧ w < 2 ^ 24 then (decode defaultCfgIds bytes).toOption else none

/-! ### The opcode table (rule R113), against which the decoder is stated

The decoder above does not use these tables. -/

/-- One row of spec/opcode_table.json: it matches a word `X` when `X &&& mask = pattern`. -/
structure TableRow (n : Nat) where
  order : Nat
  mnemonic : String
  mask : BitVec n
  pattern : BitVec n
deriving DecidableEq, Repr

/-- The rows of format BUS, in ascending `order`. -/
def busTable : List (TableRow 17) :=
  [⟨1, "RD.IDX_SELECT", 0x1CF00, 0x00000⟩,
   ⟨2, "WR.IDX_SELECT", 0x1CF00, 0x10000⟩,
   ⟨3, "RD.DATA_PORT", 0x1CF00, 0x00100⟩,
   ⟨4, "WR.DATA_PORT", 0x1CF00, 0x10100⟩,
   ⟨5, "RD.CFG_FIELD_SELECT", 0x1CF00, 0x00200⟩,
   ⟨6, "WR.CFG_FIELD_SELECT", 0x1CF00, 0x10200⟩,
   ⟨7, "RD.CFG_DATA", 0x1CF00, 0x00300⟩,
   ⟨8, "WR.CFG_DATA", 0x1CF00, 0x10300⟩,
   ⟨9, "RD.COMMAND", 0x1CF00, 0x00400⟩,
   ⟨10, "WCMD.NOP", 0x1CFFF, 0x10400⟩,
   ⟨11, "WCMD.RESET_INDEX", 0x1CFFF, 0x10401⟩,
   ⟨12, "WCMD.SET_DEFAULT_TO_ADDR", 0x1CFFF, 0x10402⟩,
   ⟨13, "WCMD.SET_LIMIT_TO_ADDR", 0x1CFFF, 0x10403⟩,
   ⟨14, "WCMD.UNKNOWN", 0x1CF00, 0x10400⟩,
   ⟨15, "RD.WRESERVED", 0x1C000, 0x00000⟩,
   ⟨16, "WR.WRESERVED", 0x1C000, 0x10000⟩,
   ⟨17, "RD.WINRESERVED", 0x1C000, 0x04000⟩,
   ⟨18, "WR.WINRESERVED", 0x1C000, 0x14000⟩,
   ⟨19, "RD.DEVICE_STATUS", 0x1FF00, 0x0F000⟩,
   ⟨20, "WR.DEVICE_STATUS", 0x1FF00, 0x1F000⟩,
   ⟨21, "RD.IRQ_CAUSE_LOW", 0x1FF00, 0x0F100⟩,
   ⟨22, "WR.IRQ_CAUSE_LOW", 0x1FF00, 0x1F100⟩,
   ⟨23, "RD.IRQ_CAUSE_HIGH", 0x1FF00, 0x0F200⟩,
   ⟨24, "WR.IRQ_CAUSE_HIGH", 0x1FF00, 0x1F200⟩,
   ⟨25, "RD.IRQ_MASK_LOW", 0x1FF00, 0x0F300⟩,
   ⟨26, "WR.IRQ_MASK_LOW", 0x1FF00, 0x1F300⟩,
   ⟨27, "RD.IRQ_MASK_HIGH", 0x1FF00, 0x0F400⟩,
   ⟨28, "WR.IRQ_MASK_HIGH", 0x1FF00, 0x1F400⟩,
   ⟨29, "RD.IRQ_ENABLE", 0x1FF00, 0x0F500⟩,
   ⟨30, "WR.IRQ_ENABLE", 0x1FF00, 0x1F500⟩,
   ⟨31, "RD.SHARED_COMMAND", 0x1FF00, 0x0FF00⟩,
   ⟨32, "SCMD.NOP", 0x1FFFF, 0x1FF00⟩,
   ⟨33, "SCMD.RESET_ALL", 0x1FFFF, 0x1FF01⟩,
   ⟨34, "SCMD.FACTORY_RESET", 0x1FFFF, 0x1FF02⟩,
   ⟨35, "SCMD.CLEAR_IRQ", 0x1FFFF, 0x1FF03⟩,
   ⟨36, "SCMD.COPY_BLOCK", 0x1FFFF, 0x1FF04⟩,
   ⟨37, "SCMD.SYSTEM_RESET", 0x1FFFF, 0x1FF05⟩,
   ⟨38, "SCMD.UNKNOWN", 0x1FF00, 0x1FF00⟩,
   ⟨39, "RD.SRESERVED", 0x18000, 0x08000⟩,
   ⟨40, "WR.SRESERVED", 0x18000, 0x18000⟩]

/-- The rows of format CFG, in ascending `order`, under the default CFG_ID map. -/
def cfgTable : List (TableRow 8) :=
  [⟨1, "CFG.CUR_L", 0xFF, 0x00⟩,
   ⟨2, "CFG.CUR_M", 0xFF, 0x01⟩,
   ⟨3, "CFG.CUR_H", 0xFF, 0x02⟩,
   ⟨4, "CFG.DEF_L", 0xFF, 0x03⟩,
   ⟨5, "CFG.DEF_M", 0xFF, 0x04⟩,
   ⟨6, "CFG.DEF_H", 0xFF, 0x05⟩,
   ⟨7, "CFG.LIM_L", 0xFF, 0x06⟩,
   ⟨8, "CFG.LIM_M", 0xFF, 0x07⟩,
   ⟨9, "CFG.LIM_H", 0xFF, 0x08⟩,
   ⟨10, "CFG.STEP", 0xFF, 0x09⟩,
   ⟨11, "CFG.FLAGS", 0xFF, 0x0A⟩,
   ⟨12, "CFG.DMA_SRC", 0xFF, 0x0B⟩,
   ⟨13, "CFG.DMA_DST", 0xFF, 0x0C⟩,
   ⟨14, "CFG.DMA_COUNT_L", 0xFF, 0x0D⟩,
   ⟨15, "CFG.DMA_COUNT_H", 0xFF, 0x0E⟩,
   ⟨16, "CFG.UNKNOWN", 0x00, 0x00⟩]

/-- Whether a row matches a word (rule R113). -/
def TableRow.matchesWord {n : Nat} (r : TableRow n) (X : BitVec n) : Bool := X &&& r.mask == r.pattern

/-- The `order` of the first row of a table that matches a word: "first match wins" (rule R113). -/
def firstMatch {n : Nat} (table : List (TableRow n)) (X : BitVec n) : Option Nat :=
  (table.find? (fun r => r.matchesWord X)).map TableRow.order

/-- The `order` of an instruction's row in its format's table; a CFG row counts on from 40. -/
def Instr.rowNumber : Instr → Nat
  | .rdIdxSelect _ => 1
  | .wrIdxSelect _ _ => 2
  | .rdDataPort _ => 3
  | .wrDataPort _ _ => 4
  | .rdCfgFieldSelect _ => 5
  | .wrCfgFieldSelect _ _ => 6
  | .rdCfgData _ => 7
  | .wrCfgData _ _ => 8
  | .rdCommand _ => 9
  | .wcmdNop _ => 10
  | .wcmdResetIndex _ => 11
  | .wcmdSetDefaultToAddr _ => 12
  | .wcmdSetLimitToAddr _ => 13
  | .wcmdUnknown _ _ => 14
  | .rdWReserved _ _ => 15
  | .wrWReserved _ _ _ => 16
  | .rdWinReserved _ => 17
  | .wrWinReserved _ _ => 18
  | .rdDeviceStatus => 19
  | .wrDeviceStatus _ => 20
  | .rdIrqCauseLow => 21
  | .wrIrqCauseLow _ => 22
  | .rdIrqCauseHigh => 23
  | .wrIrqCauseHigh _ => 24
  | .rdIrqMaskLow => 25
  | .wrIrqMaskLow _ => 26
  | .rdIrqMaskHigh => 27
  | .wrIrqMaskHigh _ => 28
  | .rdIrqEnable => 29
  | .wrIrqEnable _ => 30
  | .rdSharedCommand => 31
  | .scmdNop => 32
  | .scmdResetAll => 33
  | .scmdFactoryReset => 34
  | .scmdClearIrq => 35
  | .scmdCopyBlock => 36
  | .scmdSystemReset => 37
  | .scmdUnknown _ => 38
  | .rdSReserved _ => 39
  | .wrSReserved _ _ => 40
  | .cfgCurL _ _ => 41
  | .cfgCurM _ _ => 42
  | .cfgCurH _ _ => 43
  | .cfgDefL _ _ => 44
  | .cfgDefM _ _ => 45
  | .cfgDefH _ _ => 46
  | .cfgLimL _ _ => 47
  | .cfgLimM _ _ => 48
  | .cfgLimH _ _ => 49
  | .cfgStep _ _ => 50
  | .cfgFlags _ _ => 51
  | .cfgDmaSrc _ _ => 52
  | .cfgDmaDst _ _ => 53
  | .cfgDmaCountL _ _ => 54
  | .cfgDmaCountH _ _ => 55
  | .cfgUnknown _ _ _ => 56

end Sys2Proof
end

