-- ==== Sys2Proof/Machine/Memory.lean ====
section
/-! DEFINITION. The backing store as plain data (spec/10_state.md rule R36, spec/20_memory.md rule
R71, rule R72): a list of (address, byte) pairs in one canonical form, addresses strictly rising
and no entry equal to what an unlisted address reads as. -/

namespace Sys2Proof.Machine

/-- The bytes of the backing store that differ from their value after initialisation. -/
abbrev Memory := List Host.Cell

/-- What an unlisted address reads as: initialisation zeroes the whole store (rule R47, rule R361). -/
def unlistedByte : Byte := 0x00#8

/-- The byte at an address: `store[a]` (rule R72). -/
def Memory.read : Memory → Nat → Byte
  | [], _ => unlistedByte
  | (k, v) :: m, a => if k = a then v else Memory.read m a

/-- Puts a cell before the first cell of a higher address. -/
def Memory.insertCell (a : Nat) (v : Byte) : Memory → Memory
  | [] => [(a, v)]
  | (k, x) :: m => if a < k then (a, v) :: (k, x) :: m else (k, x) :: Memory.insertCell a v m

/-- The memory with no cell for an address, so that it reads as an unlisted one. -/
def Memory.eraseCell (m : Memory) (a : Nat) : Memory := m.filter (fun c => c.1 ≠ a)

/-- `store[a] <- v` (rule R72). Writing the unlisted value removes the cell, so that equal stores
are equal lists. -/
def Memory.write (m : Memory) (a : Nat) (v : Byte) : Memory :=
  if v = unlistedByte then m.eraseCell a else Memory.insertCell a v (m.eraseCell a)

/-- The canonical form: addresses strictly rising, no entry equal to the unlisted value. -/
abbrev Memory.wf (m : Memory) : Prop :=
  m.Pairwise (fun x y => x.1 < y.1) ∧ ∀ c ∈ m, c.2 ≠ unlistedByte

end Sys2Proof.Machine
end

