-- ==== Sys2Proof/Machine/Parts.lean ====
section
/-! DEFINITION. The records that State is made of (spec/10_state.md rule R20) and the steps of the
block's agents that are not yet taken (spec/00_scope.md rule R7, spec/30_encoding.md rule R118). -/

namespace Sys2Proof.Machine

/-- One slot of the slot file: five registers, 72 bits (rule R21 to rule R26). -/
structure Slot where
  /-- the current address (rule R22) -/
  cur : Addr
  /-- `def`, the default address (rule R23) -/
  dflt : Addr
  /-- the limit address (rule R24) -/
  lim : Addr
  /-- the unsigned step (rule R25) -/
  step : Byte
  /-- the flags, of which three bits are defined (rule R26) -/
  flags : Byte
deriving DecidableEq, Repr

/-- The DMA configuration record, one for the whole block (rule R29). -/
structure DmaConfig where
  src : SlotIx
  dst : SlotIx
  count : Half
deriving DecidableEq, Repr

/-- The state of one window (rule R30). -/
structure Window where
  /-- the slot the window points at -/
  active : SlotIx
  /-- the configuration field the window's CFG_DATA register addresses -/
  field : Byte
deriving DecidableEq, Repr

/-- The interrupt state, one for the whole block (rule R32). The IRQ line is a function of it
(rule R33) and no state of its own. -/
structure Irq where
  cause : Half
  mask : Half
  enable : Bool
deriving DecidableEq, Repr

/-- The four stored bits of the engine status (rule R34). -/
structure Status where
  memoryError : Bool
  dmaError : Bool
  dmaActive : Bool
  systemReady : Bool
deriving DecidableEq, Repr

/-- The transfer in flight (rule R37): the addresses and the count captured at acceptance, and the
indices of the bytes not yet moved, a set that is held as a strictly rising list. -/
structure Xfer where
  src : Addr
  dst : Addr
  count : Half
  todo : List Nat
deriving DecidableEq, Repr

/-- One step of one agent (rule R7, rule R118). -/
inductive Event where
  /-- the bus master presents one transaction (rule R77) -/
  | bus (T : BusWord)
  /-- `DMA.MOVE i`: the DMA agent moves the byte of index `i` (rule R217) -/
  | dmaMove (i : Nat)
  /-- `DMA.COMPLETE`: the DMA agent's completion callback (rule R219) -/
  | dmaComplete
  /-- `EXT.RAISE bits`: an external interrupt source raises cause bits (rule R322) -/
  | extRaise (bits : Half)
  /-- the reset input (rule R360) -/
  | resetInput
deriving DecidableEq, Repr

end Sys2Proof.Machine
end

