-- ==== Sys2Proof/Machine/Init.lean ====
section
/-! DEFINITION. The reset values (spec/10_state.md rule R42 to rule R48) and the spec's own test
configuration TESTCFG (spec/70_reset_and_hazards.md rule R364), which State.reset takes for the
parameters that the source leaves open. -/

namespace Sys2Proof.Machine

/-! ### TESTCFG with the defaults of rule R6 (log entry 4, log entry 5) -/

/-- FACTORY_LAYOUT of TESTCFG (rule R364): slots 0 to 127 are wrapping regions of 256 bytes, slots
128 to 255 are user slots. -/
def testLayoutEntry (s : Nat) : LayoutEntry where
  role := if s < 128 then .fixed 0x100 else .user 0x100
  defaultAddress := BitVec.ofNat 24 (s * 0x100)
  limitAddress := if s < 128 then BitVec.ofNat 24 (s * 0x100 + 0x100) else 0x000000#24
  step := 0x01#8
  flags := if s < 128 then 0x05#8 else 0x01#8

/-- TESTCFG and the default column of rule R6. DESIGN CHOICE, unsafe: the source gives none of
these numbers (log entry 4, log entry 5). -/
def testcfg : Config where
  capacity := 0x010000
  layout := ⟨((List.range 256).map testLayoutEntry).toArray, by simp⟩
  oobReadSentinel := 0x00#8
  cfgIds := defaultCfgIds
  autoStepBit := 0
  directionBit := 1
  wrapBit := 2
  statusDmaErrorBit := 3
  copyOobRaisesMemoryError := false

/-! ### Reset values -/

/-- A slot at its factory values; `cur` starts at the default address (rule R44). -/
def Slot.factory (e : LayoutEntry) : Slot where
  cur := e.defaultAddress
  dflt := e.defaultAddress
  lim := e.limitAddress
  step := e.step
  flags := e.flags

/-- A function applied to every entry of a vector. -/
def mapVector {α β : Type} {n : Nat} (f : α → β) (v : Vector α n) : Vector β n :=
  ⟨(v.toList.map f).toArray, by simp⟩

/-- The slot file after initialisation (rule R44). -/
def factorySlots (c : Config) : Vector Slot 256 := mapVector Slot.factory c.layout

/-- The DMA configuration after initialisation (rule R45). -/
def initialDma : DmaConfig where
  src := 0x00#8
  dst := 0x00#8
  count := 0x0000#16

/-- A window after reset (rule R43). -/
def initialWindow : Window where
  active := 0x00#8
  field := 0x00#8

/-- The interrupt state after reset (rule R42). -/
def initialIrq : Irq where
  cause := 0x0000#16
  mask := 0xFFFF#16
  enable := true

/-- The status bits after initialisation (rule R46). -/
def initialStatus : Status where
  memoryError := false
  dmaError := false
  dmaActive := false
  systemReady := true

/-- The backing store after initialisation: every byte reads 0x00 (rule R47). -/
def initialStore : Memory := []

end Sys2Proof.Machine
end

