-- ==== Sys2Proof/Machine/State.lean ====
section
/-! DEFINITION. The machine's state: everything spec/10_state.md rule R20 gives the block, the
parameters of spec/00_scope.md rule R6 that its steps depend on, the bus port's output and the
steps that the agents have yet to take. -/

namespace Sys2Proof.Machine

/-- The state of the block (rule R20), and three fields of the model's own: `cfg`, `rdata` and
`schedule` (DESIGN CHOICE, unsafe: log entries 4, 3 and 1). -/
structure State where
  /-- the open parameters of rule R6; no step changes them -/
  cfg : Config
  /-- `slot[0..255]` (rule R21) -/
  slots : Vector Slot 256
  /-- `dma` (rule R29) -/
  dma : DmaConfig
  /-- `win[0..7]` (rule R30); windows 4 to 7 are out of every transaction's reach (rule R31) -/
  win : Vector Window 8
  /-- `irq` (rule R32) -/
  irq : Irq
  /-- `status` (rule R34) -/
  status : Status
  /-- `store[0..CAPACITY-1]` (rule R36) -/
  store : Memory
  /-- `xfer`, the transfer in flight (rule R37) -/
  xfer : Option Xfer
  /-- `bus_rdata` (rule R8 (a)): the byte the last transaction returned, none after a write -/
  rdata : Option Byte
  /-- the agents' coming steps, in the total order of rule R80 -/
  schedule : List Event
deriving DecidableEq, Repr

/-- Why the machine stops with a fault. The block itself has none (rule R247). -/
inductive Fault where
  /-- A byte move of the DMA agent at an offset of CAPACITY or above, which does not exist (rule R71,
  rule R72). Raised by `DMA.MOVE`. Safe: no state that meets `State.Inv` raises it, because the
  ranges were checked at acceptance (rule R217). -/
  | storeAddressAbsent
deriving DecidableEq, Repr

/-- Why a step has no meaning. -/
inductive Refusal where
  /-- An instruction that has no meaning yet. No arm of exec raises it. Safe. -/
  | notModelled (mnemonic : String)
  /-- The schedule names a step of the DMA agent that is not enabled (rule R217, rule R219), so the
  schedule is no run of the machine. Raised by `DMA.MOVE` and `DMA.COMPLETE`. Safe. -/
  | stepNotEnabled
deriving DecidableEq, Repr

/-- The state right after reset under given parameters (rule R42 to rule R48), with no transaction
answered and no step scheduled. -/
def State.initial (c : Config) : State where
  cfg := c
  slots := factorySlots c
  dma := initialDma
  win := Vector.replicate 8 initialWindow
  irq := initialIrq
  status := initialStatus
  store := initialStore
  xfer := none
  rdata := none
  schedule := []

/-- The machine right after reset, under TESTCFG (log entry 4). -/
def State.reset : State := State.initial testcfg

end Sys2Proof.Machine
end

