-- ==== Sys2Proof/Machine/Flags.lean ====
section
/-! DEFINITION. Bits: the flags of a slot (spec/10_state.md rule R26), the cause bits
(spec/30_encoding.md rule R110), the IRQ line (rule R33) and the DEVICE_STATUS byte (rule R35). -/

namespace Sys2Proof.Machine

/-! ### Cause bits (rule R110) -/

/-- Cause bit 0, MEMORY_ERROR. -/
def causeMemoryError : Half := 0x0001#16

/-- Cause bit 2, DMA_COMPLETE. -/
def causeDmaComplete : Half := 0x0004#16

/-- Cause bit 3, DMA_ERROR. -/
def causeDmaError : Half := 0x0008#16

/-- Bits 7:0 of a 16-bit register (rule R74). -/
def lowByte (h : Half) : Byte := h.extractLsb' 0 8

/-- Bits 15:8 of a 16-bit register (rule R74). -/
def highByte (h : Half) : Byte := h.extractLsb' 8 8

/-- `{h[15:8], b}`. -/
def withLowByte (h : Half) (b : Byte) : Half := highByte h ++ b

/-- `{b, h[7:0]}`. -/
def withHighByte (h : Half) (b : Byte) : Half := b ++ lowByte h

/-! ### The IRQ line -/

/-- `irq_is_pending()`, which is also the IRQ line, true = asserted (rule R33, rule R318). -/
def Irq.pending (q : Irq) : Bool := q.enable && (q.cause &&& q.mask) != 0x0000#16

/-- `irq_line` of a state (rule R33). -/
def State.irqLine (s : State) : Bool := s.irq.pending

/-! ### DEVICE_STATUS -/

/-- A byte whose bit `n` is `v` and whose other bits are 0. -/
def bitAt (n : Nat) (v : Bool) : Byte := if v then 0x01#8 <<< n else 0x00#8

/-- The DEVICE_STATUS byte, composed on each read (rule R35, rule R280). -/
def State.deviceStatus (s : State) : Byte :=
  bitAt 7 s.status.systemReady ||| bitAt 6 s.status.dmaActive |||
  bitAt s.cfg.statusDmaErrorBit s.status.dmaError ||| bitAt 2 s.status.memoryError |||
  bitAt 1 s.irqLine

/-! ### Slot flags -/

/-- AUTO_STEP of a slot (rule R26, rule R108). -/
def Slot.autoStep (c : Config) (sl : Slot) : Bool := sl.flags.getLsbD c.autoStepBit

/-- DIRECTION of a slot, true = backward (rule R26, rule R108). -/
def Slot.backward (c : Config) (sl : Slot) : Bool := sl.flags.getLsbD c.directionBit

/-- WRAP_ON_LIMIT of a slot (rule R26, rule R108). -/
def Slot.wrapOnLimit (c : Config) (sl : Slot) : Bool := sl.flags.getLsbD c.wrapBit

end Sys2Proof.Machine
end

