-- ==== Sys2Proof/Machine/Operands.lean ====
section
/-! DEFINITION. Operands: which window and which slot a transaction acts on
(spec/20_memory.md rule R73), and the byte lanes of the 24-bit registers (rule R74, rule R111). -/

namespace Sys2Proof.Machine

/-! ### Byte lanes of a 24-bit register -/

/-- `a[7:0]`. -/
def addrLow (a : Addr) : Byte := a.extractLsb' 0 8

/-- `a[15:8]`. -/
def addrMid (a : Addr) : Byte := a.extractLsb' 8 8

/-- `a[23:16]`. -/
def addrHigh (a : Addr) : Byte := a.extractLsb' 16 8

/-- `{a[23:8], b}` (rule R151). -/
def withAddrLow (a : Addr) (b : Byte) : Addr := addrHigh a ++ addrMid a ++ b

/-- `{a[23:16], b, a[7:0]}` (rule R152). -/
def withAddrMid (a : Addr) (b : Byte) : Addr := addrHigh a ++ b ++ addrLow a

/-- `{b, a[15:0]}` (rule R153). -/
def withAddrHigh (a : Addr) (b : Byte) : Addr := b ++ addrMid a ++ addrLow a

/-! ### Slots -/

/-- `slot[k]` (rule R21). -/
def State.slot (s : State) (k : SlotIx) : Slot := s.slots[k.toNat]'k.isLt

/-- `slot[k] <- sl`. -/
def State.setSlot (s : State) (k : SlotIx) (sl : Slot) : State :=
  { s with slots := s.slots.set k.toNat sl k.isLt }

/-- Every slot replaced by a function of it, in one step. -/
def State.mapSlots (s : State) (f : Slot → Slot) : State :=
  { s with slots := mapVector f s.slots }

/-! ### Windows -/

/-- The index of a wired window among the eight windows. -/
def windowIx (w : WindowNo) : Fin 8 := ⟨w.toNat, by have := w.isLt; omega⟩

/-- `win[w]` of a wired window (rule R30). -/
def State.window (s : State) (w : WindowNo) : Window := s.win[windowIx w]

/-- `win[w] <- x` of a wired window. -/
def State.setWindow (s : State) (w : WindowNo) (x : Window) : State :=
  { s with win := s.win.set (windowIx w) x }

/-- The slot that window `w` points at: `win[w].active` (rule R73). -/
def State.activeIx (s : State) (w : WindowNo) : SlotIx := (s.window w).active

/-- `slot[win[w].active]`. -/
def State.activeSlot (s : State) (w : WindowNo) : Slot := s.slot (s.activeIx w)

end Sys2Proof.Machine
end

