-- ==== Sys2Proof/Machine/Ops.lean ====
section
/-! DEFINITION. The shared operations: the interrupt controller (spec/60_exceptions.md rule R311 to
rule R318), the two error conditions (spec/00_scope.md rule R11), the engine's accesses
(spec/40_indexed_access.md), the block copy and the DMA agent (spec/44_block_copy_dma.md), and the
resets (spec/70_reset_and_hazards.md). The block takes no exception: an error sets a status bit
and a cause bit and the operation returns (rule R11, rule R326); there is no return operation (rule
R327). -/

namespace Sys2Proof.Machine

/-- What a meaning answers. -/
abbrev Result := Host.Outcome State Fault Refusal

/-! ### The end of a transaction (spec/20_memory.md rule R77) -/

/-- A read transaction ends: `v` is driven on `bus_rdata`. -/
def State.reply (s : State) (v : Byte) : State := { s with rdata := some v }

/-- A write transaction ends: it returns nothing. -/
def State.acknowledge (s : State) : State := { s with rdata := none }

/-! ### The interrupt controller -/

/-- `irq_raise(bits)` (rule R311). -/
def State.irqRaise (s : State) (bits : Half) : State :=
  { s with irq := { s.irq with cause := s.irq.cause ||| bits } }

/-- `irq_acknowledge_low(b)` (rule R312). -/
def State.irqAcknowledgeLow (s : State) (b : Byte) : State :=
  { s with irq := { s.irq with cause := withLowByte s.irq.cause (lowByte s.irq.cause &&& ~~~b) } }

/-- `irq_acknowledge_high(b)` (rule R313). -/
def State.irqAcknowledgeHigh (s : State) (b : Byte) : State :=
  { s with irq := { s.irq with cause := withHighByte s.irq.cause (highByte s.irq.cause &&& ~~~b) } }

/-- `irq_clear_all()` (rule R314). -/
def State.irqClearAll (s : State) : State :=
  { s with irq := { s.irq with cause := 0x0000#16 } }

/-- `irq_set_mask(v)` (rule R315). -/
def State.irqSetMask (s : State) (v : Half) : State :=
  { s with irq := { s.irq with mask := v } }

/-- `irq_set_global_enable(v)` (rule R316). -/
def State.irqSetGlobalEnable (s : State) (v : Bool) : State :=
  { s with irq := { s.irq with enable := v } }

/-! ### The two error conditions -/

/-- `raise MemoryError()` (rule R11). -/
def State.raiseMemoryError (s : State) : State :=
  { s with status := { s.status with memoryError := true } }.irqRaise causeMemoryError

/-- `raise DmaError()` (rule R11). -/
def State.raiseDmaError (s : State) : State :=
  { s with status := { s.status with dmaError := true } }.irqRaise causeDmaError

/-! ### Indexed access -/

/-- `in_bounds(a)` (rule R130). -/
def State.inBounds (s : State) (a : Addr) : Bool := a.toNat < s.cfg.capacity

/-- `MemRead(a, 1)` (rule R72); its callers check `a < CAPACITY` first. -/
def State.memRead (s : State) (a : Nat) : Byte := s.store.read a

/-- `MemWrite(a, 1, v)` (rule R72); its callers check `a < CAPACITY` first. -/
def State.memWrite (s : State) (a : Nat) (v : Byte) : State := { s with store := s.store.write a v }

/-- The stepped address `n` of rule R133, reduced modulo 2^24 (rule R135). -/
def Slot.stepped (c : Config) (sl : Slot) : Addr :=
  if sl.backward c then sl.cur - sl.step.setWidth 24 else sl.cur + sl.step.setWidth 24

/-- Whether the stepped address has crossed the limit (rule R133, rule R134). -/
def Slot.crossed (c : Config) (sl : Slot) : Bool :=
  if sl.backward c then (sl.stepped c).toNat < sl.lim.toNat else sl.lim.toNat ≤ (sl.stepped c).toNat

/-- `cur` after `advance` (rule R133). -/
def Slot.nextCur (c : Config) (sl : Slot) : Addr :=
  if sl.autoStep c then
    if sl.wrapOnLimit c && sl.crossed c then sl.dflt else sl.stepped c
  else sl.cur

/-- `advance(k)` (rule R133). -/
def State.advance (s : State) (k : SlotIx) : State :=
  s.setSlot k { s.slot k with cur := (s.slot k).nextCur s.cfg }

/-- `ENGINE.READ(k)` (rule R131): the byte it returns. -/
def State.engineReadByte (s : State) (k : SlotIx) : Byte :=
  if s.inBounds (s.slot k).cur then s.memRead (s.slot k).cur.toNat else s.cfg.oobReadSentinel

/-- `ENGINE.READ(k)` (rule R131): the state it leaves. -/
def State.engineRead (s : State) (k : SlotIx) : State :=
  if s.inBounds (s.slot k).cur then s.advance k else s.raiseMemoryError

/-- `ENGINE.WRITE(k, b)` (rule R132). -/
def State.engineWrite (s : State) (k : SlotIx) (b : Byte) : State :=
  if s.inBounds (s.slot k).cur then (s.memWrite (s.slot k).cur.toNat b).advance k
  else s.raiseMemoryError

/-! ### The block copy and the DMA agent -/

/-- The bounds check of a copy: `a + n <= CAPACITY` as natural numbers (rule R211). -/
def State.copyInBounds (s : State) (a : Addr) (n : Half) : Bool := a.toNat + n.toNat ≤ s.cfg.capacity

/-- The rejection of a copy whose range is out of bounds (rule R212). -/
def State.rejectCopyBounds (s : State) : State :=
  if s.cfg.copyOobRaisesMemoryError then s.raiseDmaError.raiseMemoryError else s.raiseDmaError

/-- The acceptance of a copy (rule R214). -/
def State.acceptCopy (s : State) (src dst : Addr) (n : Half) : State :=
  { s with
    status := { s.status with dmaActive := true }
    xfer := some { src := src, dst := dst, count := n, todo := List.range n.toNat } }

/-- `COPY_BLOCK()` (rule R210), with its checks in the order zero count, bounds, in flight (rule
R225). -/
def State.copyBlock (s : State) : State :=
  if s.dma.count = 0x0000#16 then s
  else if s.copyInBounds (s.slot s.dma.src).cur s.dma.count &&
      s.copyInBounds (s.slot s.dma.dst).cur s.dma.count then
    if s.status.dmaActive then s.raiseDmaError
    else s.acceptCopy (s.slot s.dma.src).cur (s.slot s.dma.dst).cur s.dma.count
  else s.rejectCopyBounds

/-- The byte move of a transfer: read, write, and `i` no longer to do (rule R217). -/
def State.moveByte (s : State) (x : Xfer) (i : Nat) : State :=
  { s.memWrite (x.dst.toNat + i) (s.memRead (x.src.toNat + i)) with
    xfer := some { x with todo := x.todo.erase i } }

/-- `DMA.MOVE i` (rule R217). It is enabled only for an `i` still to do. -/
def State.dmaMove (s : State) (i : Nat) : Result :=
  match s.xfer with
  | none => .refused .stepNotEnabled
  | some x =>
      if i ∈ x.todo then
        if x.src.toNat + i < s.cfg.capacity ∧ x.dst.toNat + i < s.cfg.capacity then
          .next (s.moveByte x i)
        else .fault .storeAddressAbsent
      else .refused .stepNotEnabled

/-- The completion of a transfer (rule R219). -/
def State.completeTransfer (s : State) : State :=
  { s with xfer := none, status := { s.status with dmaActive := false } }.irqRaise causeDmaComplete

/-- `DMA.COMPLETE` (rule R219). It is enabled only when every byte has been moved. -/
def State.dmaComplete (s : State) : Result :=
  match s.xfer with
  | none => .refused .stepNotEnabled
  | some x => if x.todo = [] then .next s.completeTransfer else .refused .stepNotEnabled

/-! ### Resets (rule R362) -/

/-- `slot[s].cur <- slot[s].def` for every slot (rule R192). -/
def State.resetAllSlots (s : State) : State := s.mapSlots (fun sl => { sl with cur := sl.dflt })

/-- `ENGINE_INIT()` (rule R361). -/
def State.engineInit (s : State) : State :=
  { s with
    slots := factorySlots s.cfg
    dma := initialDma
    store := initialStore
    xfer := none
    status := initialStatus }

/-- `RESET()` (rule R360). -/
def State.hardReset (s : State) : State :=
  { s with irq := initialIrq, win := Vector.replicate 8 initialWindow }.engineInit

end Sys2Proof.Machine
end

