-- ==== Sys2Proof/Machine/Reserved.lean ====
section
/-! DEFINITION. The reserved addresses (spec/45_bus_decode.md rule R244 to rule R246): a read returns 0x00, a write is
ignored. -/

namespace Sys2Proof.Machine

/-- RD.WRESERVED: offsets 5 to 15 of a wired window (rule R245). -/
def execRdWReserved (_w : WindowNo) (_off : BitVec 4) (s : State) : Result := .next (s.reply 0x00#8)

/-- WR.WRESERVED (rule R245). -/
def execWrWReserved (_w : WindowNo) (_off : BitVec 4) (_b : Byte) (s : State) : Result :=
  .next s.acknowledge

/-- RD.WINRESERVED: addresses 0x40 to 0x7F (rule R244). -/
def execRdWinReserved (_low : BitVec 6) (s : State) : Result := .next (s.reply 0x00#8)

/-- WR.WINRESERVED (rule R244). -/
def execWrWinReserved (_low : BitVec 6) (_b : Byte) (s : State) : Result := .next s.acknowledge

/-- RD.SRESERVED: addresses 0x80 to 0xEF and 0xF6 to 0xFE (rule R246). -/
def execRdSReserved (_sreg : BitVec 7) (s : State) : Result := .next (s.reply 0x00#8)

/-- WR.SRESERVED (rule R246). -/
def execWrSReserved (_sreg : BitVec 7) (_b : Byte) (s : State) : Result := .next s.acknowledge

end Sys2Proof.Machine
end

