-- ==== Sys2Proof/Machine/SharedCommands.lean ====
section
/-! DEFINITION. The shared commands (spec/43_shared_commands.md). -/

namespace Sys2Proof.Machine

/-- SCMD.NOP (rule R191). -/
def execScmdNop (s : State) : Result := .next s.acknowledge

/-- SCMD.RESET_ALL: every slot's `cur` goes to its present `def` (rule R192). -/
def execScmdResetAll (s : State) : Result := .next s.resetAllSlots.acknowledge

/-- SCMD.FACTORY_RESET: `ENGINE_INIT()` and `irq_clear_all()` (rule R193). -/
def execScmdFactoryReset (s : State) : Result := .next s.engineInit.irqClearAll.acknowledge

/-- SCMD.CLEAR_IRQ: `irq_clear_all()` (rule R194). -/
def execScmdClearIrq (s : State) : Result := .next s.irqClearAll.acknowledge

/-- SCMD.COPY_BLOCK: `COPY_BLOCK()` (rule R195, rule R210). -/
def execScmdCopyBlock (s : State) : Result := .next s.copyBlock.acknowledge

/-- SCMD.SYSTEM_RESET: `RESET()` (rule R196, rule R360). -/
def execScmdSystemReset (s : State) : Result := .next s.hardReset.acknowledge

/-- SCMD.UNKNOWN: unknown commands are ignored (rule R197). -/
def execScmdUnknown (_c : Byte) (s : State) : Result := .next s.acknowledge

end Sys2Proof.Machine
end

