-- ==== Sys2Proof/Machine/SharedRegisters.lean ====
section
/-! DEFINITION. The shared registers (spec/47_shared_registers.md). -/

namespace Sys2Proof.Machine

/-- RD.DEVICE_STATUS (rule R280). -/
def execRdDeviceStatus (s : State) : Result := .next (s.reply s.deviceStatus)

/-- WR.DEVICE_STATUS: read-only, the write is ignored (rule R281). -/
def execWrDeviceStatus (_b : Byte) (s : State) : Result := .next s.acknowledge

/-- RD.IRQ_CAUSE_LOW: `return irq.cause[7:0]` (rule R282). -/
def execRdIrqCauseLow (s : State) : Result := .next (s.reply (lowByte s.irq.cause))

/-- WR.IRQ_CAUSE_LOW: write-1-to-clear (rule R283). -/
def execWrIrqCauseLow (b : Byte) (s : State) : Result := .next (s.irqAcknowledgeLow b).acknowledge

/-- RD.IRQ_CAUSE_HIGH: `return irq.cause[15:8]` (rule R284). -/
def execRdIrqCauseHigh (s : State) : Result := .next (s.reply (highByte s.irq.cause))

/-- WR.IRQ_CAUSE_HIGH: write-1-to-clear (rule R285). -/
def execWrIrqCauseHigh (b : Byte) (s : State) : Result := .next (s.irqAcknowledgeHigh b).acknowledge

/-- RD.IRQ_MASK_LOW: `return irq.mask[7:0]` (rule R286). -/
def execRdIrqMaskLow (s : State) : Result := .next (s.reply (lowByte s.irq.mask))

/-- WR.IRQ_MASK_LOW: `irq_set_mask` of `irq.mask` with `b` as its low byte (rule R287). -/
def execWrIrqMaskLow (b : Byte) (s : State) : Result :=
  .next (s.irqSetMask (withLowByte s.irq.mask b)).acknowledge

/-- RD.IRQ_MASK_HIGH: `return irq.mask[15:8]` (rule R288). -/
def execRdIrqMaskHigh (s : State) : Result := .next (s.reply (highByte s.irq.mask))

/-- WR.IRQ_MASK_HIGH: `irq_set_mask` of `irq.mask` with `b` as its high byte (rule R289). -/
def execWrIrqMaskHigh (b : Byte) (s : State) : Result :=
  .next (s.irqSetMask (withHighByte s.irq.mask b)).acknowledge

/-- RD.IRQ_ENABLE: 0x01 or 0x00 (rule R290). -/
def execRdIrqEnable (s : State) : Result :=
  .next (s.reply (if s.irq.enable then 0x01#8 else 0x00#8))

/-- WR.IRQ_ENABLE: `irq_set_global_enable(b != 0)` (rule R291). -/
def execWrIrqEnable (b : Byte) (s : State) : Result :=
  .next (s.irqSetGlobalEnable (b != 0x00#8)).acknowledge

/-- RD.SHARED_COMMAND: write-only, reads 0x00 (rule R292). -/
def execRdSharedCommand (s : State) : Result := .next (s.reply 0x00#8)

end Sys2Proof.Machine
end

