-- ==== Sys2Proof/Machine/WindowCommands.lean ====
section
/-! DEFINITION. The window commands (spec/42_window_commands.md), which act on the slot the window points at
(spec/46_window_registers.md rule R269). -/

namespace Sys2Proof.Machine

/-- WCMD.NOP (rule R181). -/
def execWcmdNop (_w : WindowNo) (s : State) : Result := .next s.acknowledge

/-- WCMD.RESET_INDEX: `slot[s].cur <- slot[s].def` (rule R182). -/
def execWcmdResetIndex (w : WindowNo) (s : State) : Result :=
  .next (s.setSlot (s.activeIx w)
    { s.activeSlot w with cur := (s.activeSlot w).dflt }).acknowledge

/-- WCMD.SET_DEFAULT_TO_ADDR: `slot[s].def <- slot[s].cur` (rule R183). -/
def execWcmdSetDefaultToAddr (w : WindowNo) (s : State) : Result :=
  .next (s.setSlot (s.activeIx w)
    { s.activeSlot w with dflt := (s.activeSlot w).cur }).acknowledge

/-- WCMD.SET_LIMIT_TO_ADDR: `slot[s].lim <- slot[s].cur` (rule R184). -/
def execWcmdSetLimitToAddr (w : WindowNo) (s : State) : Result :=
  .next (s.setSlot (s.activeIx w)
    { s.activeSlot w with lim := (s.activeSlot w).cur }).acknowledge

/-- WCMD.UNKNOWN: unknown commands are ignored (rule R185). -/
def execWcmdUnknown (_w : WindowNo) (_c : Byte) (s : State) : Result := .next s.acknowledge

end Sys2Proof.Machine
end

