-- ==== Sys2Proof/Machine/CfgFields.lean ====
section
/-! DEFINITION. The configuration fields (spec/41_config_fields.md): one meaning per CFG row, consulted through window
`w` by a read (`get`) or by a write (`set b`) of its CFG_DATA register, with `s = win[w].active`. No
access has a side effect beyond the byte it names (rule R150). -/

namespace Sys2Proof.Machine

/-- A field of the active slot: `get` drives the byte, `set` replaces it (rule R150). -/
def slotField (get : Slot → Byte) (put : Slot → Byte → Slot) (w : WindowNo) (a : CfgAccess)
    (s : State) : Result :=
  match a with
  | .get => .next (s.reply (get (s.activeSlot w)))
  | .set b => .next (s.setSlot (s.activeIx w) (put (s.activeSlot w) b)).acknowledge

/-- A field of the DMA configuration, the same through every window and every slot (rule R162). -/
def dmaField (get : DmaConfig → Byte) (put : DmaConfig → Byte → DmaConfig) (a : CfgAccess)
    (s : State) : Result :=
  match a with
  | .get => .next (s.reply (get s.dma))
  | .set b => .next { s with dma := put s.dma b }.acknowledge

/-- Field CUR_L, `slot[s].cur[7:0]` (rule R151). -/
def execCfgCurL (w : WindowNo) (a : CfgAccess) (s : State) : Result :=
  slotField (fun sl => addrLow sl.cur) (fun sl b => { sl with cur := withAddrLow sl.cur b }) w a s

/-- Field CUR_M, `slot[s].cur[15:8]` (rule R152). -/
def execCfgCurM (w : WindowNo) (a : CfgAccess) (s : State) : Result :=
  slotField (fun sl => addrMid sl.cur) (fun sl b => { sl with cur := withAddrMid sl.cur b }) w a s

/-- Field CUR_H, `slot[s].cur[23:16]` (rule R153). -/
def execCfgCurH (w : WindowNo) (a : CfgAccess) (s : State) : Result :=
  slotField (fun sl => addrHigh sl.cur) (fun sl b => { sl with cur := withAddrHigh sl.cur b }) w a s

/-- Field DEF_L, `slot[s].def[7:0]` (rule R154). -/
def execCfgDefL (w : WindowNo) (a : CfgAccess) (s : State) : Result :=
  slotField (fun sl => addrLow sl.dflt) (fun sl b => { sl with dflt := withAddrLow sl.dflt b }) w a s

/-- Field DEF_M, `slot[s].def[15:8]` (rule R155). -/
def execCfgDefM (w : WindowNo) (a : CfgAccess) (s : State) : Result :=
  slotField (fun sl => addrMid sl.dflt) (fun sl b => { sl with dflt := withAddrMid sl.dflt b }) w a s

/-- Field DEF_H, `slot[s].def[23:16]` (rule R156). -/
def execCfgDefH (w : WindowNo) (a : CfgAccess) (s : State) : Result :=
  slotField (fun sl => addrHigh sl.dflt) (fun sl b => { sl with dflt := withAddrHigh sl.dflt b }) w a s

/-- Field LIM_L, `slot[s].lim[7:0]` (rule R157). -/
def execCfgLimL (w : WindowNo) (a : CfgAccess) (s : State) : Result :=
  slotField (fun sl => addrLow sl.lim) (fun sl b => { sl with lim := withAddrLow sl.lim b }) w a s

/-- Field LIM_M, `slot[s].lim[15:8]` (rule R158). -/
def execCfgLimM (w : WindowNo) (a : CfgAccess) (s : State) : Result :=
  slotField (fun sl => addrMid sl.lim) (fun sl b => { sl with lim := withAddrMid sl.lim b }) w a s

/-- Field LIM_H, `slot[s].lim[23:16]` (rule R159). -/
def execCfgLimH (w : WindowNo) (a : CfgAccess) (s : State) : Result :=
  slotField (fun sl => addrHigh sl.lim) (fun sl b => { sl with lim := withAddrHigh sl.lim b }) w a s

/-- Field STEP, `slot[s].step` (rule R160). -/
def execCfgStep (w : WindowNo) (a : CfgAccess) (s : State) : Result :=
  slotField (fun sl => sl.step) (fun sl b => { sl with step := b }) w a s

/-- Field FLAGS, `slot[s].flags`, all eight bits (rule R161). -/
def execCfgFlags (w : WindowNo) (a : CfgAccess) (s : State) : Result :=
  slotField (fun sl => sl.flags) (fun sl b => { sl with flags := b }) w a s

/-- Field DMA_SRC, global (rule R162). -/
def execCfgDmaSrc (_w : WindowNo) (a : CfgAccess) (s : State) : Result :=
  dmaField (fun d => d.src) (fun d b => { d with src := b }) a s

/-- Field DMA_DST, global (rule R163). -/
def execCfgDmaDst (_w : WindowNo) (a : CfgAccess) (s : State) : Result :=
  dmaField (fun d => d.dst) (fun d b => { d with dst := b }) a s

/-- Field DMA_COUNT_L, global (rule R164). -/
def execCfgDmaCountL (_w : WindowNo) (a : CfgAccess) (s : State) : Result :=
  dmaField (fun d => lowByte d.count) (fun d b => { d with count := withLowByte d.count b }) a s

/-- Field DMA_COUNT_H, global (rule R165). -/
def execCfgDmaCountH (_w : WindowNo) (a : CfgAccess) (s : State) : Result :=
  dmaField (fun d => highByte d.count) (fun d b => { d with count := withHighByte d.count b }) a s

/-- An unknown field id reads as 0x00 and ignores writes (rule R166). -/
def execCfgUnknown (_w : WindowNo) (a : CfgAccess) (_f : Byte) (s : State) : Result :=
  match a with
  | .get => .next (s.reply 0x00#8)
  | .set _ => .next s.acknowledge

/-- The CFG row that matches `win[w].field`, consulted by the access `a` (rule R113, rule R167). -/
def consultCfgRow (w : WindowNo) (a : CfgAccess) (s : State) : Result :=
  match s.cfg.cfgIds.fieldOf (s.window w).field with
  | some .curL => execCfgCurL w a s
  | some .curM => execCfgCurM w a s
  | some .curH => execCfgCurH w a s
  | some .defL => execCfgDefL w a s
  | some .defM => execCfgDefM w a s
  | some .defH => execCfgDefH w a s
  | some .limL => execCfgLimL w a s
  | some .limM => execCfgLimM w a s
  | some .limH => execCfgLimH w a s
  | some .step => execCfgStep w a s
  | some .flags => execCfgFlags w a s
  | some .dmaSrc => execCfgDmaSrc w a s
  | some .dmaDst => execCfgDmaDst w a s
  | some .dmaCountL => execCfgDmaCountL w a s
  | some .dmaCountH => execCfgDmaCountH w a s
  | none => execCfgUnknown w a (s.window w).field s

end Sys2Proof.Machine
end

