-- ==== Sys2Proof/Machine/WindowRegisters.lean ====
section
/-! DEFINITION. The window registers (spec/46_window_registers.md). -/

namespace Sys2Proof.Machine

/-- RD.IDX_SELECT: `return win[w].active` (rule R260). -/
def execRdIdxSelect (w : WindowNo) (s : State) : Result :=
  .next (s.reply (s.window w).active)

/-- WR.IDX_SELECT: `win[w].active <- b` (rule R261). -/
def execWrIdxSelect (w : WindowNo) (b : Byte) (s : State) : Result :=
  .next (s.setWindow w { s.window w with active := b }).acknowledge

/-- RD.DATA_PORT: `return ENGINE.READ(win[w].active)` (rule R262). -/
def execRdDataPort (w : WindowNo) (s : State) : Result :=
  .next ((s.engineRead (s.activeIx w)).reply (s.engineReadByte (s.activeIx w)))

/-- WR.DATA_PORT: `ENGINE.WRITE(win[w].active, b)` (rule R263). -/
def execWrDataPort (w : WindowNo) (b : Byte) (s : State) : Result :=
  .next (s.engineWrite (s.activeIx w) b).acknowledge

/-- RD.CFG_FIELD_SELECT: `return win[w].field` (rule R264). -/
def execRdCfgFieldSelect (w : WindowNo) (s : State) : Result :=
  .next (s.reply (s.window w).field)

/-- WR.CFG_FIELD_SELECT: `win[w].field <- b` (rule R265). -/
def execWrCfgFieldSelect (w : WindowNo) (b : Byte) (s : State) : Result :=
  .next (s.setWindow w { s.window w with field := b }).acknowledge

/-- RD.CFG_DATA: `return GET_CFG(win[w].active, win[w].field)` (rule R266). -/
def execRdCfgData (w : WindowNo) (s : State) : Result := consultCfgRow w .get s

/-- WR.CFG_DATA: `SET_CFG(win[w].active, win[w].field, b)` (rule R267). -/
def execWrCfgData (w : WindowNo) (b : Byte) (s : State) : Result := consultCfgRow w (.set b) s

/-- RD.COMMAND: COMMAND is write-only and reads 0x00 (rule R268). -/
def execRdCommand (_w : WindowNo) (s : State) : Result :=
  .next (s.reply 0x00#8)

end Sys2Proof.Machine
end

