-- ==== Sys2Proof/Machine/Dispatch.lean ====
section
/-! DEFINITION. The dispatch of an instruction to its meaning, one arm per row of
spec/opcode_table.json. -/

namespace Sys2Proof.Machine

def exec (i : Instr) (s : State) : Host.Outcome State Fault Refusal :=
  match i with
  | .rdIdxSelect w => Sys2Proof.Machine.execRdIdxSelect w s
  | .wrIdxSelect w b => Sys2Proof.Machine.execWrIdxSelect w b s
  | .rdDataPort w => Sys2Proof.Machine.execRdDataPort w s
  | .wrDataPort w b => Sys2Proof.Machine.execWrDataPort w b s
  | .rdCfgFieldSelect w => Sys2Proof.Machine.execRdCfgFieldSelect w s
  | .wrCfgFieldSelect w b => Sys2Proof.Machine.execWrCfgFieldSelect w b s
  | .rdCfgData w => Sys2Proof.Machine.execRdCfgData w s
  | .wrCfgData w b => Sys2Proof.Machine.execWrCfgData w b s
  | .rdCommand w => Sys2Proof.Machine.execRdCommand w s
  | .wcmdNop w => Sys2Proof.Machine.execWcmdNop w s
  | .wcmdResetIndex w => Sys2Proof.Machine.execWcmdResetIndex w s
  | .wcmdSetDefaultToAddr w => Sys2Proof.Machine.execWcmdSetDefaultToAddr w s
  | .wcmdSetLimitToAddr w => Sys2Proof.Machine.execWcmdSetLimitToAddr w s
  | .wcmdUnknown w c => Sys2Proof.Machine.execWcmdUnknown w c s
  | .rdWReserved w off => Sys2Proof.Machine.execRdWReserved w off s
  | .wrWReserved w off b => Sys2Proof.Machine.execWrWReserved w off b s
  | .rdWinReserved low => Sys2Proof.Machine.execRdWinReserved low s
  | .wrWinReserved low b => Sys2Proof.Machine.execWrWinReserved low b s
  | .rdDeviceStatus => Sys2Proof.Machine.execRdDeviceStatus s
  | .wrDeviceStatus b => Sys2Proof.Machine.execWrDeviceStatus b s
  | .rdIrqCauseLow => Sys2Proof.Machine.execRdIrqCauseLow s
  | .wrIrqCauseLow b => Sys2Proof.Machine.execWrIrqCauseLow b s
  | .rdIrqCauseHigh => Sys2Proof.Machine.execRdIrqCauseHigh s
  | .wrIrqCauseHigh b => Sys2Proof.Machine.execWrIrqCauseHigh b s
  | .rdIrqMaskLow => Sys2Proof.Machine.execRdIrqMaskLow s
  | .wrIrqMaskLow b => Sys2Proof.Machine.execWrIrqMaskLow b s
  | .rdIrqMaskHigh => Sys2Proof.Machine.execRdIrqMaskHigh s
  | .wrIrqMaskHigh b => Sys2Proof.Machine.execWrIrqMaskHigh b s
  | .rdIrqEnable => Sys2Proof.Machine.execRdIrqEnable s
  | .wrIrqEnable b => Sys2Proof.Machine.execWrIrqEnable b s
  | .rdSharedCommand => Sys2Proof.Machine.execRdSharedCommand s
  | .scmdNop => Sys2Proof.Machine.execScmdNop s
  | .scmdResetAll => Sys2Proof.Machine.execScmdResetAll s
  | .scmdFactoryReset => Sys2Proof.Machine.execScmdFactoryReset s
  | .scmdClearIrq => Sys2Proof.Machine.execScmdClearIrq s
  | .scmdCopyBlock => Sys2Proof.Machine.execScmdCopyBlock s
  | .scmdSystemReset => Sys2Proof.Machine.execScmdSystemReset s
  | .scmdUnknown c => Sys2Proof.Machine.execScmdUnknown c s
  | .rdSReserved sreg => Sys2Proof.Machine.execRdSReserved sreg s
  | .wrSReserved sreg b => Sys2Proof.Machine.execWrSReserved sreg b s
  | .cfgCurL w a => Sys2Proof.Machine.execCfgCurL w a s
  | .cfgCurM w a => Sys2Proof.Machine.execCfgCurM w a s
  | .cfgCurH w a => Sys2Proof.Machine.execCfgCurH w a s
  | .cfgDefL w a => Sys2Proof.Machine.execCfgDefL w a s
  | .cfgDefM w a => Sys2Proof.Machine.execCfgDefM w a s
  | .cfgDefH w a => Sys2Proof.Machine.execCfgDefH w a s
  | .cfgLimL w a => Sys2Proof.Machine.execCfgLimL w a s
  | .cfgLimM w a => Sys2Proof.Machine.execCfgLimM w a s
  | .cfgLimH w a => Sys2Proof.Machine.execCfgLimH w a s
  | .cfgStep w a => Sys2Proof.Machine.execCfgStep w a s
  | .cfgFlags w a => Sys2Proof.Machine.execCfgFlags w a s
  | .cfgDmaSrc w a => Sys2Proof.Machine.execCfgDmaSrc w a s
  | .cfgDmaDst w a => Sys2Proof.Machine.execCfgDmaDst w a s
  | .cfgDmaCountL w a => Sys2Proof.Machine.execCfgDmaCountL w a s
  | .cfgDmaCountH w a => Sys2Proof.Machine.execCfgDmaCountH w a s
  | .cfgUnknown w a f => Sys2Proof.Machine.execCfgUnknown w a f s

end Sys2Proof.Machine
end

