-- ==== Sys2Proof/Machine/Events.lean ====
section
/-! DEFINITION. The steps of the four agents (spec/00_scope.md rule R7, spec/30_encoding.md rule
R118), taken one at a time in the order of the state's schedule (spec/20_memory.md rule R80). -/

namespace Sys2Proof.Machine

/-- A transaction on the bus port: the word is decoded and its row is executed (rule R77, rule R243). -/
def runTransaction (T : BusWord) (s : State) : Result := exec (decodeBus T) s

/-- One step of one agent (rule R7). -/
def runEvent (e : Event) (s : State) : Result :=
  match e with
  | .bus T => runTransaction T s
  | .dmaMove i => s.dmaMove i
  | .dmaComplete => s.dmaComplete
  | .extRaise bits => .next (s.irqRaise bits)
  | .resetInput => .next s.hardReset.acknowledge

/-- The next step of the schedule. Where no agent has a step to take the block waits: it initiates
nothing itself (rule R7). -/
def runNext (s : State) : Result :=
  match s.schedule with
  | [] => .next s
  | e :: rest => runEvent e { s with schedule := rest }

/-- The state in which the bus master's next step is the transaction `T`. -/
def State.present (s : State) (T : BusWord) : State := { s with schedule := .bus T :: s.schedule }

/-- The state in which a word of spec/opcode_table.json runs next. A BUS row's word is presented on
the bus port. A CFG row's field id is put into window A's field register and the read of window A's
CFG_DATA, which consults it, is presented (log entry 6). -/
def State.presentTableWord (s : State) (nbits w : Nat) : State :=
  if nbits ≤ 8 then
    (s.setWindow 0#2 { s.window 0#2 with field := BitVec.ofNat 8 w }).present (cfgDataWord 0#2 .get)
  else s.present (BitVec.ofNat 17 w)

end Sys2Proof.Machine
end

