-- ==== Sys2Proof/Machine/Step.lean ====
section
/-! DEFINITION. One step of the machine, and where it fetches. There is no program counter and no
program in memory (spec/10_state.md rule R38): the transactions come from the bus master, in the
order of the schedule. -/

namespace Sys2Proof.Machine

/-- One step: the next step of the schedule, whichever agent takes it (rule R80). -/
def step (s : State) : Host.Outcome State Fault Refusal := runNext s

/-- The state whose next step runs the given word of spec/opcode_table.json. -/
def State.withFetchWord (s : State) (nbits w : Nat) : State := s.presentTableWord nbits w

end Sys2Proof.Machine
end

