-- ==== Sys2Proof/Safety.lean ====
section
/-! DEFINITION. What counts as a good state and as an unchanged part of a state, in the terms the
statements use, and the runs of a schedule. -/

namespace Sys2Proof.Machine

/-! ### Good states -/

/-- A transfer in flight that a `COPY_BLOCK` can have left (rule R37, rule R211, rule R214): at least
one byte, both ranges inside the store, and the bytes still to move a set of indices below `count`. -/
structure Xfer.Inv (capacity : Nat) (x : Xfer) : Prop where
  count_pos : 1 ≤ x.count.toNat
  src_inside : x.src.toNat + x.count.toNat ≤ capacity
  dst_inside : x.dst.toNat + x.count.toNat ≤ capacity
  todo_rising : x.todo.Pairwise (· < ·)
  todo_below : ∀ i ∈ x.todo, i < x.count.toNat

/-- The invariant of the machine. -/
structure State.Inv (s : State) : Prop where
  /-- the parameters meet the constraint column of rule R6, the layout rule R363 among it -/
  cfg_wf : s.cfg.wf
  /-- the store is in its canonical form -/
  store_wf : s.store.wf
  /-- only the offsets 0 to CAPACITY-1 exist (rule R71) -/
  store_inside : ∀ c ∈ s.store, c.1 < s.cfg.capacity
  /-- `status.DMA_ACTIVE == 1` exactly when `xfer != none` (rule R37) -/
  active_iff : s.status.dmaActive = s.xfer.isSome
  /-- SYSTEM_READY is never cleared while out of reset (rule R46, rule R325) -/
  ready : s.status.systemReady = true
  /-- `win[4..7]` keep their reset values forever (rule R31) -/
  dead_windows : ∀ j : Fin 8, 4 ≤ j.val → s.win[j] = { active := 0x00#8, field := 0x00#8 }
  /-- a transfer in flight is one that was accepted -/
  xfer_inv : ∀ x, s.xfer = some x → x.Inv s.cfg.capacity

/-! ### Unchanged parts -/

/-- The parts of the state that rule R20 lists. -/
inductive Part where
  | slots | dma | win | irq | status | store | xfer
deriving DecidableEq, Repr

/-- Part `p` reads the same in `t` as in `s`: every slot, every window, every byte of the store. -/
def Part.Same (p : Part) (s t : State) : Prop :=
  match p with
  | .slots => ∀ k : SlotIx, t.slot k = s.slot k
  | .dma => t.dma = s.dma
  | .win => ∀ j : Fin 8, t.win[j] = s.win[j]
  | .irq => t.irq = s.irq
  | .status => t.status = s.status
  | .store => ∀ a : Nat, t.memRead a = s.memRead a
  | .xfer => t.xfer = s.xfer

/-- From `s` to `t` no part of the state changed but those listed; the parameters and the coming
steps of the agents are the same. -/
def OnlyChanges (parts : List Part) (s t : State) : Prop :=
  t.cfg = s.cfg ∧ t.schedule = s.schedule ∧ ∀ p : Part, p ∉ parts → p.Same s t

/-- From `s` to `t` no register changed but registers of slot `k`. -/
def OnlyChangesSlot (k : SlotIx) (s t : State) : Prop :=
  OnlyChanges [.slots] s t ∧ ∀ j : SlotIx, j ≠ k → t.slot j = s.slot j

/-- From `s` to `t` no register changed but registers of window `w`. -/
def OnlyChangesWindow (w : WindowNo) (s t : State) : Prop :=
  OnlyChanges [.win] s t ∧ ∀ j : Fin 8, j ≠ windowIx w → t.win[j] = s.win[j]

/-! ### The byte a configuration field names -/

/-- The column "Byte addressed" of the table of rule R107. -/
def fieldByte (s : State) (k : SlotIx) : CfgField → Byte
  | .curL => (s.slot k).cur.extractLsb' 0 8
  | .curM => (s.slot k).cur.extractLsb' 8 8
  | .curH => (s.slot k).cur.extractLsb' 16 8
  | .defL => (s.slot k).dflt.extractLsb' 0 8
  | .defM => (s.slot k).dflt.extractLsb' 8 8
  | .defH => (s.slot k).dflt.extractLsb' 16 8
  | .limL => (s.slot k).lim.extractLsb' 0 8
  | .limM => (s.slot k).lim.extractLsb' 8 8
  | .limH => (s.slot k).lim.extractLsb' 16 8
  | .step => (s.slot k).step
  | .flags => (s.slot k).flags
  | .dmaSrc => s.dma.src
  | .dmaDst => s.dma.dst
  | .dmaCountL => s.dma.count.extractLsb' 0 8
  | .dmaCountH => s.dma.count.extractLsb' 8 8

/-! ### Addresses -/

/-- The row of spec/opcode_table.json that a read of a bus address selects. -/
def addressRow (a : Nat) : Nat := (decodeBus (busWord false (BitVec.ofNat 8 a) 0x00#8)).rowNumber

/-! ### Runs -/

/-- The bus master's step that presents the transaction of an instruction. -/
def transaction (i : Instr) : Event := .bus i.word

/-- The outcome of taking the steps of a list of events, one after another, from `s`, whatever else
`s` has scheduled. -/
def runEvents : List Event → State → Result
  | [], s => .next s
  | e :: es, s =>
    match runEvent e s with
    | .next t => runEvents es t
    | .fault r => .fault r
    | .refused r => .refused r

/-- The steps of the DMA agent that carry out a transfer, its bytes in the order given (rule R216,
rule R218). -/
def dmaSchedule (order : List Nat) : List Event := order.map Event.dmaMove ++ [Event.dmaComplete]

end Sys2Proof.Machine
end

