-- ==== Sys2Proof/Certificates/Slice0/Obligations.lean ====
section
/-! DEFINITION. The statements for the provers. `t.rdata = some v` says that the transaction drives
`v` on `bus_rdata` (rule R8 (a)); a frame is said by OnlyChanges, part by part of rule R20. -/

open Sys2Proof Sys2Proof.Machine

/-! ### Encoding -/

/-- Rule R100, rule R107, rule R113: decoding the bytes of a well-formed instruction gives it back,
with every operand at every value and under every injective CFG_ID map. The bytes of a word and of a
configuration access are the model's choice (log entries 6 and 7). -/
def Obligations.DecodeAfterEncodeIsIdentity : Prop :=
  ∀ (ids : CfgIds) (i : Instr), ids.wf → i.wf ids = true → decode ids (encode ids i) = .ok i

/-- Rule R100, rule R112: every transaction word decodes, to a well-formed instruction whose word is
the canonical form of the one decoded. The bytes of a word are the model's choice (log entry 7). -/
def Obligations.EveryWordDecodesAndEncodesBack : Prop :=
  ∀ (ids : CfgIds) (T : BusWord),
    decode ids (wordBytes T) = .ok (decodeBus T) ∧
    (decodeBus T).wf ids = true ∧
    (decodeBus T).word = if busRw T then T else T &&& 0x1FF00#17

/-- Rule R113: the decoder takes the row of lowest `order` among those that match. The
lowest-order-wins reading is the spec's own decision D2. -/
def Obligations.DecoderTakesTheFirstMatchingRow : Prop :=
  (∀ T : BusWord, firstMatch busTable T = some (decodeBus T).rowNumber) ∧
  (∀ (w : WindowNo) (a : CfgAccess) (f : Byte),
    (firstMatch cfgTable f).map (40 + ·) = some (decodeCfg defaultCfgIds w a f).rowNumber) ∧
  (busTable.map TableRow.order).Pairwise (· < ·) ∧ (cfgTable.map TableRow.order).Pairwise (· < ·)

/-- A few words of spec/95_test_vectors.md section 2.6, and the configuration rows of rule R107.
Window A and a read for a CFG row's byte are the model's choice (log entry 6). -/
def Obligations.WordsOfTheSpecDecode : Prop :=
  decodeTableWord 24 0x10141 = some (.wrDataPort 0#2 0x41#8) ∧
  decodeTableWord 24 0x011FF = some (.rdDataPort 1#2) ∧
  decodeTableWord 24 0x13401 = some (.wcmdResetIndex 3#2) ∧
  decodeTableWord 24 0x0F000 = some .rdDeviceStatus ∧
  decodeTableWord 24 0x1FF04 = some .scmdCopyBlock ∧
  decodeTableWord 24 0x07F00 = some (.rdWinReserved 0x3F#6) ∧
  decodeTableWord 8 0x0A = some (.cfgFlags 0#2 .get) ∧
  decodeTableWord 8 0x0F = some (.cfgUnknown 0#2 .get 0x0F#8)

/-- Rule R242: an address below 0x80 is `Window(addr[6:4], addr[3:0])`, another is
`Shared(addr[6:0])`; with the rule's examples. -/
def Obligations.AddressDecodesByItsFields : Prop :=
  (∀ addr : Byte,
    (addr.toNat < 0x80 → decodeAddr addr =
      .window (BitVec.ofNat 3 (addr.toNat / 16)) (BitVec.ofNat 4 (addr.toNat % 16))) ∧
    (0x80 ≤ addr.toNat → decodeAddr addr = .shared (BitVec.ofNat 7 (addr.toNat % 128)))) ∧
  decodeAddr 0x11#8 = .window 1#3 1#4 ∧ decodeAddr 0xF0#8 = .shared 0x70#7 ∧
  decodeAddr 0x34#8 = .window 3#3 4#4 ∧ decodeAddr 0x7F#8 = .window 7#3 15#4 ∧
  decodeAddr 0xFF#8 = .shared 0x7F#7

/-- Rule R104: the reserved addresses are the offsets 5 to 15 of windows 0 to 3, 0x40 to 0x7F, 0x80
to 0xEF and 0xF6 to 0xFE, and no other; the other addresses are the 20 window registers and the 7
shared registers, so that every address is of exactly one class. -/
def Obligations.AddressClassesAreAsCounted : Prop :=
  (List.range 256).filter (fun a => addressRow a = 15) =
    List.range' 0x05 11 ++ List.range' 0x15 11 ++ List.range' 0x25 11 ++ List.range' 0x35 11 ∧
  (List.range 256).filter (fun a => addressRow a = 17) = List.range' 0x40 64 ∧
  (List.range 256).filter (fun a => addressRow a = 39) =
    List.range' 0x80 112 ++ List.range' 0xF6 9 ∧
  (List.range 256).countP (fun a => addressRow a = 15) = 44 ∧
  (List.range 256).filter (fun a => addressRow a ≤ 9) =
    List.range' 0x00 5 ++ List.range' 0x10 5 ++ List.range' 0x20 5 ++ List.range' 0x30 5 ∧
  (List.range 256).filter (fun a => addressRow a ∈ [19, 21, 23, 25, 27, 29, 31]) =
    List.range' 0xF0 6 ++ [0xFF]

/-! ### The step -/

/-- A step runs the decoded instruction: where the bus master's transaction is the next step of the
schedule and its bytes decode to `i`, the step is `exec i` on the state with that step taken off the
schedule; and every word's bytes decode (rule R77, rule R243). Whichever agent is next, the step is
that agent's (rule R7, rule R80), and with no step scheduled the block stays as it is. The schedule,
the byte layout of a word and the idle step are the model's (log entries 1 and 7). -/
def Obligations.StepRunsTheDecodedInstruction : Prop :=
  ∀ (s : State) (rest : List Event),
    (∀ T : BusWord, s.schedule = .bus T :: rest →
      (∀ i, decode s.cfg.cfgIds (wordBytes T) = .ok i →
        i.wf s.cfg.cfgIds = true ∧ step s = exec i { s with schedule := rest }) ∧
      ∃ i, decode s.cfg.cfgIds (wordBytes T) = .ok i) ∧
    (∀ e : Event, s.schedule = e :: rest → step s = runEvent e { s with schedule := rest }) ∧
    (s.schedule = [] → step s = .next s)

/-- Rule R113, rule R266, rule R267: an access of CFG_DATA runs the CFG row that its window's field
register selects. Which row matches is the spec's own decision D2; a configuration access as an
instruction of its own is the model's choice (log entry 6). -/
def Obligations.CfgDataRunsTheSelectedRow : Prop :=
  ∀ (s : State) (w : WindowNo) (b : Byte),
    exec (.rdCfgData w) s =
      exec (decodeCfg s.cfg.cfgIds w .get (s.window w).field) s ∧
    exec (.wrCfgData w b) s =
      exec (decodeCfg s.cfg.cfgIds w (.set b) (s.window w).field) s

/-- Rule R77, rule R247: every transaction completes; a read receives one byte, a write nothing.
That a write leaves no byte on `bus_rdata` is the model's choice (log entry 3). -/
def Obligations.EveryTransactionCompletes : Prop :=
  ∀ (s : State) (T : BusWord), ∃ t, exec (decodeBus T) s = .next t ∧
    t.cfg = s.cfg ∧ t.schedule = s.schedule ∧
    (busRw T = false → ∃ v, t.rdata = some v) ∧ (busRw T = true → t.rdata = none)

/-- Rule R78: a read of any address but a DATA_PORT changes no state, and so returns the same byte
when it is repeated. The spec marks the rule as derived. -/
def Obligations.OnlyDataPortReadsHaveSideEffects : Prop :=
  ∀ (s : State) (T : BusWord), busRw T = false →
    (∀ w : WindowNo, busAddr T ≠ 0#2 ++ w ++ 1#4) →
    ∃ t v, exec (decodeBus T) s = .next t ∧ t.rdata = some v ∧ OnlyChanges [] s t ∧
      exec (decodeBus T) t = .next t

/-! ### Window registers -/

/-- Rule R260, rule R261: IDX_SELECT. -/
def Obligations.IdxSelectReadsAndSetsActive : Prop :=
  ∀ (s : State) (w : WindowNo) (b : Byte),
    (∃ t, exec (.rdIdxSelect w) s = .next t ∧ t.rdata = some (s.window w).active ∧
      OnlyChanges [] s t) ∧
    (∃ t, exec (.wrIdxSelect w b) s = .next t ∧
      t.window w = { active := b, field := (s.window w).field } ∧ OnlyChangesWindow w s t)

/-- Rule R264, rule R265: CFG_FIELD_SELECT; an access of CFG_DATA does not advance the selection. -/
def Obligations.CfgFieldSelectReadsAndSetsField : Prop :=
  ∀ (s : State) (w : WindowNo) (b : Byte),
    (∃ t, exec (.rdCfgFieldSelect w) s = .next t ∧ t.rdata = some (s.window w).field ∧
      OnlyChanges [] s t) ∧
    (∃ t, exec (.wrCfgFieldSelect w b) s = .next t ∧
      t.window w = { active := (s.window w).active, field := b } ∧ OnlyChangesWindow w s t) ∧
    (∃ t, exec (.rdCfgData w) s = .next t ∧ ∀ j : Fin 8, t.win[j] = s.win[j]) ∧
    (∃ t, exec (.wrCfgData w b) s = .next t ∧ ∀ j : Fin 8, t.win[j] = s.win[j])

/-- Rule R244, rule R245, rule R246, rule R268, rule R292: the write-only registers and the reserved
addresses read 0x00 and a read of one changes nothing. The no-op windows are the spec's own decision
D19 (log entry 8). -/
def Obligations.WriteOnlyAndReservedAddressesReadZero : Prop :=
  ∀ (s : State) (w : WindowNo) (off : BitVec 4) (low : BitVec 6) (sreg : BitVec 7) (i : Instr),
    i ∈ [.rdCommand w, .rdSharedCommand, .rdWReserved w off, .rdWinReserved low, .rdSReserved sreg] →
    ∃ t, exec i s = .next t ∧ t.rdata = some 0x00#8 ∧ OnlyChanges [] s t

/-- Rule R181, rule R185, rule R191, rule R197, rule R244, rule R245, rule R246, rule R281: the NOP
commands, the unknown commands, the writes of reserved addresses and of DEVICE_STATUS change no
state. The no-op windows are the spec's own decision D19 (log entry 8). -/
def Obligations.IgnoredWritesChangeNothing : Prop :=
  ∀ (s : State) (w : WindowNo) (off : BitVec 4) (low : BitVec 6) (sreg : BitVec 7) (b : Byte)
    (i : Instr),
    i ∈ [.wcmdNop w, .wcmdUnknown w b, .scmdNop, .scmdUnknown b, .wrWReserved w off b,
      .wrWinReserved low b, .wrSReserved sreg b, .wrDeviceStatus b] →
    ∃ t, exec i s = .next t ∧ OnlyChanges [] s t

/-! ### Indexed access -/

/-- Rule R131, rule R136, rule R262: RD.DATA_PORT. In bounds it returns the byte at `cur` and steps
`cur`; out of bounds it returns the sentinel, sets the MEMORY_ERROR status and cause bits and leaves
the slot and the store alone. The sentinel is an open parameter, the spec's own decision D5 (log
entry 5). -/
def Obligations.DataPortReadReturnsTheByteOrTheSentinel : Prop :=
  ∀ (s : State) (w : WindowNo),
    ((s.activeSlot w).cur.toNat < s.cfg.capacity →
      ∃ t, exec (.rdDataPort w) s = .next t ∧
        t.rdata = some (s.memRead (s.activeSlot w).cur.toNat) ∧
        t.slot (s.activeIx w) =
          { s.activeSlot w with cur := (s.activeSlot w).nextCur s.cfg } ∧
        OnlyChangesSlot (s.activeIx w) s t) ∧
    (s.cfg.capacity ≤ (s.activeSlot w).cur.toNat →
      ∃ t, exec (.rdDataPort w) s = .next t ∧ t.rdata = some s.cfg.oobReadSentinel ∧
        t.status = { s.status with memoryError := true } ∧
        t.irq = { s.irq with cause := s.irq.cause ||| 0x0001#16 } ∧
        OnlyChanges [.status, .irq] s t)

/-- Rule R132, rule R136, rule R263: WR.DATA_PORT. In bounds it stores the byte at `cur`, at no other
address, and steps `cur`; out of bounds the write is dropped and MemoryError raised. -/
def Obligations.DataPortWriteStoresTheByteOrDropsIt : Prop :=
  ∀ (s : State) (w : WindowNo) (b : Byte),
    ((s.activeSlot w).cur.toNat < s.cfg.capacity →
      ∃ t, exec (.wrDataPort w b) s = .next t ∧
        t.memRead (s.activeSlot w).cur.toNat = b ∧
        (∀ a, a ≠ (s.activeSlot w).cur.toNat → t.memRead a = s.memRead a) ∧
        t.slot (s.activeIx w) =
          { s.activeSlot w with cur := (s.activeSlot w).nextCur s.cfg } ∧
        (∀ j, j ≠ s.activeIx w → t.slot j = s.slot j) ∧
        OnlyChanges [.slots, .store] s t) ∧
    (s.cfg.capacity ≤ (s.activeSlot w).cur.toNat →
      ∃ t, exec (.wrDataPort w b) s = .next t ∧
        t.status = { s.status with memoryError := true } ∧
        t.irq = { s.irq with cause := s.irq.cause ||| 0x0001#16 } ∧
        OnlyChanges [.status, .irq] s t)

/-- Rule R133, rule R134, rule R135: the auto-step and the wrap, in natural numbers. Masking before
the comparison is the spec's own decision D10, the wrap test under AUTO_STEP only its decision D11
(log entries 10 and 11). -/
def Obligations.AdvanceStepsAndWraps : Prop :=
  ∀ (c : Config) (sl : Slot),
    (sl.flags.getLsbD c.autoStepBit = false → sl.nextCur c = sl.cur) ∧
    (sl.flags.getLsbD c.autoStepBit = true → sl.flags.getLsbD c.directionBit = false →
      ∀ n, n = (sl.cur.toNat + sl.step.toNat) % 2 ^ 24 →
        if sl.flags.getLsbD c.wrapBit = true ∧ n ≥ sl.lim.toNat then sl.nextCur c = sl.dflt
        else (sl.nextCur c).toNat = n) ∧
    (sl.flags.getLsbD c.autoStepBit = true → sl.flags.getLsbD c.directionBit = true →
      ∀ n, n = (sl.cur.toNat + 2 ^ 24 - sl.step.toNat) % 2 ^ 24 →
        if sl.flags.getLsbD c.wrapBit = true ∧ n < sl.lim.toNat then sl.nextCur c = sl.dflt
        else (sl.nextCur c).toNat = n)

/-- Rule R137 (b): with AUTO_STEP clear, a byte written through a window in bounds is the byte read
back through it. The spec marks the rule as derived. -/
def Obligations.WriteThenReadWithoutAutoStepReturnsTheByte : Prop :=
  ∀ (s : State) (w : WindowNo) (b : Byte),
    (s.activeSlot w).flags.getLsbD s.cfg.autoStepBit = false →
    (s.activeSlot w).cur.toNat < s.cfg.capacity →
    ∃ t, runEvents [transaction (.wrDataPort w b), transaction (.rdDataPort w)] s = .next t ∧
      t.rdata = some b ∧ t.slot (s.activeIx w) = s.activeSlot w

/-- Rule R140: N bytes written with AUTO_STEP forward are read back in order after RESET_INDEX, and
the N writes leave `cur` at start + N * step modulo 2^24; provided every accessed address is in
bounds, step >= 1, N * step <= 2^24, `def` is the start, and WRAP_ON_LIMIT is clear or no step
reaches the limit. Where WRAP_ON_LIMIT is set and a step crosses 2^24, masking before the comparison
is the spec's own decision D10 (log entry 10). -/
def Obligations.WrittenSequenceReadsBack : Prop :=
  ∀ (s : State) (w : WindowNo) (bs : List Byte),
    (s.activeSlot w).flags.getLsbD s.cfg.autoStepBit = true →
    (s.activeSlot w).flags.getLsbD s.cfg.directionBit = false →
    ((s.activeSlot w).flags.getLsbD s.cfg.wrapBit = false ∨
      ∀ i < bs.length, ((s.activeSlot w).cur.toNat + (i + 1) * (s.activeSlot w).step.toNat) % 2 ^ 24 <
        (s.activeSlot w).lim.toNat) →
    (s.activeSlot w).dflt = (s.activeSlot w).cur →
    1 ≤ (s.activeSlot w).step.toNat →
    bs.length * (s.activeSlot w).step.toNat ≤ 2 ^ 24 →
    (∀ i < bs.length,
      ((s.activeSlot w).cur.toNat + i * (s.activeSlot w).step.toNat) % 2 ^ 24 < s.cfg.capacity) →
    (∃ t, runEvents (bs.map fun b => transaction (.wrDataPort w b)) s = .next t ∧
      (t.slot (s.activeIx w)).cur.toNat =
        ((s.activeSlot w).cur.toNat + bs.length * (s.activeSlot w).step.toNat) % 2 ^ 24) ∧
    ∀ (j : Nat) (hj : j < bs.length),
      ∃ t, runEvents ((bs.map fun b => transaction (.wrDataPort w b)) ++
          transaction (.wcmdResetIndex w) :: List.replicate (j + 1) (transaction (.rdDataPort w))) s
            = .next t ∧
        t.rdata = some bs[j]

/-- Rule R141: with `def < lim`, AUTO_STEP and WRAP_ON_LIMIT forward and `cur` at `def`, the write
number ceil((lim - def) / step) wraps `cur` to `def`, so that the next write lands back at `def`;
every accessed address in bounds and no step past 2^24. The last two premises are this statement's
own: rule R141 does not say them. -/
def Obligations.WrappingWritesComeBackToTheDefault : Prop :=
  ∀ (s : State) (w : WindowNo) (bs : List Byte) (b : Byte),
    (s.activeSlot w).flags.getLsbD s.cfg.autoStepBit = true →
    (s.activeSlot w).flags.getLsbD s.cfg.directionBit = false →
    (s.activeSlot w).flags.getLsbD s.cfg.wrapBit = true →
    (s.activeSlot w).cur = (s.activeSlot w).dflt →
    (s.activeSlot w).dflt.toNat < (s.activeSlot w).lim.toNat →
    1 ≤ (s.activeSlot w).step.toNat →
    (s.activeSlot w).lim.toNat + (s.activeSlot w).step.toNat ≤ 2 ^ 24 →
    (s.activeSlot w).lim.toNat ≤ s.cfg.capacity →
    bs.length = ((s.activeSlot w).lim.toNat - (s.activeSlot w).dflt.toNat +
      (s.activeSlot w).step.toNat - 1) / (s.activeSlot w).step.toNat →
    (∃ t, runEvents (bs.map fun b => transaction (.wrDataPort w b)) s = .next t ∧
      t.slot (s.activeIx w) = s.activeSlot w) ∧
    (∃ t, runEvents ((bs ++ [b]).map fun b => transaction (.wrDataPort w b)) s = .next t ∧
      t.memRead (s.activeSlot w).dflt.toNat = b)

/-! ### Configuration fields -/

/-- Rule R151, rule R152, rule R153: the three bytes of `cur`. -/
def Obligations.CurFieldsAreTheBytesOfCur : Prop :=
  ∀ (s : State) (w : WindowNo) (b : Byte),
    (∃ t, exec (.cfgCurL w .get) s = .next t ∧
      t.rdata = some ((s.activeSlot w).cur.extractLsb' 0 8) ∧ OnlyChanges [] s t) ∧
    (∃ t, exec (.cfgCurM w .get) s = .next t ∧
      t.rdata = some ((s.activeSlot w).cur.extractLsb' 8 8) ∧ OnlyChanges [] s t) ∧
    (∃ t, exec (.cfgCurH w .get) s = .next t ∧
      t.rdata = some ((s.activeSlot w).cur.extractLsb' 16 8) ∧ OnlyChanges [] s t) ∧
    (∃ t, exec (.cfgCurL w (.set b)) s = .next t ∧ t.slot (s.activeIx w) =
        { s.activeSlot w with cur := (s.activeSlot w).cur.extractLsb' 8 16 ++ b } ∧
      OnlyChangesSlot (s.activeIx w) s t) ∧
    (∃ t, exec (.cfgCurM w (.set b)) s = .next t ∧ t.slot (s.activeIx w) =
        { s.activeSlot w with
          cur := (s.activeSlot w).cur.extractLsb' 16 8 ++ b ++
            (s.activeSlot w).cur.extractLsb' 0 8 } ∧
      OnlyChangesSlot (s.activeIx w) s t) ∧
    (∃ t, exec (.cfgCurH w (.set b)) s = .next t ∧ t.slot (s.activeIx w) =
        { s.activeSlot w with cur := b ++ (s.activeSlot w).cur.extractLsb' 0 16 } ∧
      OnlyChangesSlot (s.activeIx w) s t)

/-- Rule R154, rule R155, rule R156: the three bytes of `def`. -/
def Obligations.DefFieldsAreTheBytesOfDef : Prop :=
  ∀ (s : State) (w : WindowNo) (b : Byte),
    (∃ t, exec (.cfgDefL w .get) s = .next t ∧
      t.rdata = some ((s.activeSlot w).dflt.extractLsb' 0 8) ∧ OnlyChanges [] s t) ∧
    (∃ t, exec (.cfgDefM w .get) s = .next t ∧
      t.rdata = some ((s.activeSlot w).dflt.extractLsb' 8 8) ∧ OnlyChanges [] s t) ∧
    (∃ t, exec (.cfgDefH w .get) s = .next t ∧
      t.rdata = some ((s.activeSlot w).dflt.extractLsb' 16 8) ∧ OnlyChanges [] s t) ∧
    (∃ t, exec (.cfgDefL w (.set b)) s = .next t ∧ t.slot (s.activeIx w) =
        { s.activeSlot w with dflt := (s.activeSlot w).dflt.extractLsb' 8 16 ++ b } ∧
      OnlyChangesSlot (s.activeIx w) s t) ∧
    (∃ t, exec (.cfgDefM w (.set b)) s = .next t ∧ t.slot (s.activeIx w) =
        { s.activeSlot w with
          dflt := (s.activeSlot w).dflt.extractLsb' 16 8 ++ b ++
            (s.activeSlot w).dflt.extractLsb' 0 8 } ∧
      OnlyChangesSlot (s.activeIx w) s t) ∧
    (∃ t, exec (.cfgDefH w (.set b)) s = .next t ∧ t.slot (s.activeIx w) =
        { s.activeSlot w with dflt := b ++ (s.activeSlot w).dflt.extractLsb' 0 16 } ∧
      OnlyChangesSlot (s.activeIx w) s t)

/-- Rule R157, rule R158, rule R159: the three bytes of `lim`. -/
def Obligations.LimFieldsAreTheBytesOfLim : Prop :=
  ∀ (s : State) (w : WindowNo) (b : Byte),
    (∃ t, exec (.cfgLimL w .get) s = .next t ∧
      t.rdata = some ((s.activeSlot w).lim.extractLsb' 0 8) ∧ OnlyChanges [] s t) ∧
    (∃ t, exec (.cfgLimM w .get) s = .next t ∧
      t.rdata = some ((s.activeSlot w).lim.extractLsb' 8 8) ∧ OnlyChanges [] s t) ∧
    (∃ t, exec (.cfgLimH w .get) s = .next t ∧
      t.rdata = some ((s.activeSlot w).lim.extractLsb' 16 8) ∧ OnlyChanges [] s t) ∧
    (∃ t, exec (.cfgLimL w (.set b)) s = .next t ∧ t.slot (s.activeIx w) =
        { s.activeSlot w with lim := (s.activeSlot w).lim.extractLsb' 8 16 ++ b } ∧
      OnlyChangesSlot (s.activeIx w) s t) ∧
    (∃ t, exec (.cfgLimM w (.set b)) s = .next t ∧ t.slot (s.activeIx w) =
        { s.activeSlot w with
          lim := (s.activeSlot w).lim.extractLsb' 16 8 ++ b ++
            (s.activeSlot w).lim.extractLsb' 0 8 } ∧
      OnlyChangesSlot (s.activeIx w) s t) ∧
    (∃ t, exec (.cfgLimH w (.set b)) s = .next t ∧ t.slot (s.activeIx w) =
        { s.activeSlot w with lim := b ++ (s.activeSlot w).lim.extractLsb' 0 16 } ∧
      OnlyChangesSlot (s.activeIx w) s t)

/-- Rule R160, rule R161: `step` and all eight bits of `flags`. That the undefined flag bits are
storage is the spec's own decision D7 (log entry 12). -/
def Obligations.StepAndFlagsFieldsAreWholeRegisters : Prop :=
  ∀ (s : State) (w : WindowNo) (b : Byte),
    (∃ t, exec (.cfgStep w .get) s = .next t ∧
      t.rdata = some (s.activeSlot w).step ∧ OnlyChanges [] s t) ∧
    (∃ t, exec (.cfgFlags w .get) s = .next t ∧
      t.rdata = some (s.activeSlot w).flags ∧ OnlyChanges [] s t) ∧
    (∃ t, exec (.cfgStep w (.set b)) s = .next t ∧
      t.slot (s.activeIx w) = { s.activeSlot w with step := b } ∧
      OnlyChangesSlot (s.activeIx w) s t) ∧
    (∃ t, exec (.cfgFlags w (.set b)) s = .next t ∧
      t.slot (s.activeIx w) = { s.activeSlot w with flags := b } ∧
      OnlyChangesSlot (s.activeIx w) s t)

/-- Rule R162 to rule R165: the DMA configuration, the same through every window. -/
def Obligations.DmaFieldsAreTheGlobalRecord : Prop :=
  ∀ (s : State) (w : WindowNo) (b : Byte),
    (∃ t, exec (.cfgDmaSrc w .get) s = .next t ∧ t.rdata = some s.dma.src ∧ OnlyChanges [] s t) ∧
    (∃ t, exec (.cfgDmaDst w .get) s = .next t ∧ t.rdata = some s.dma.dst ∧ OnlyChanges [] s t) ∧
    (∃ t, exec (.cfgDmaCountL w .get) s = .next t ∧
      t.rdata = some (s.dma.count.extractLsb' 0 8) ∧ OnlyChanges [] s t) ∧
    (∃ t, exec (.cfgDmaCountH w .get) s = .next t ∧
      t.rdata = some (s.dma.count.extractLsb' 8 8) ∧ OnlyChanges [] s t) ∧
    (∃ t, exec (.cfgDmaSrc w (.set b)) s = .next t ∧ t.dma = { s.dma with src := b } ∧
      OnlyChanges [.dma] s t) ∧
    (∃ t, exec (.cfgDmaDst w (.set b)) s = .next t ∧ t.dma = { s.dma with dst := b } ∧
      OnlyChanges [.dma] s t) ∧
    (∃ t, exec (.cfgDmaCountL w (.set b)) s = .next t ∧
      t.dma = { s.dma with count := s.dma.count.extractLsb' 8 8 ++ b } ∧ OnlyChanges [.dma] s t) ∧
    (∃ t, exec (.cfgDmaCountH w (.set b)) s = .next t ∧
      t.dma = { s.dma with count := b ++ s.dma.count.extractLsb' 0 8 } ∧ OnlyChanges [.dma] s t)

/-- Rule R166: an unknown id reads as 0x00 and its writes are ignored. -/
def Obligations.UnknownFieldsReadZeroAndIgnoreWrites : Prop :=
  ∀ (s : State) (w : WindowNo) (f b : Byte),
    (∃ t, exec (.cfgUnknown w .get f) s = .next t ∧ t.rdata = some 0x00#8 ∧ OnlyChanges [] s t) ∧
    (∃ t, exec (.cfgUnknown w (.set b) f) s = .next t ∧ OnlyChanges [] s t) ∧
    ((∀ x : CfgField, s.cfg.cfgIds.idOf x ≠ (s.window w).field) →
      (∃ t, exec (.rdCfgData w) s = .next t ∧ t.rdata = some 0x00#8 ∧ OnlyChanges [] s t) ∧
      (∃ t, exec (.wrCfgData w b) s = .next t ∧ OnlyChanges [] s t))

/-- Rule R167, rule R266, rule R267: under an injective CFG_ID an access of CFG_DATA reads or
replaces the byte that the selected field names, and nothing else but its slot or the DMA record
changes. The numbers of CFG_ID are an open parameter, the spec's own decision D6 (log entry 5). -/
def Obligations.CfgDataAccessesTheSelectedByte : Prop :=
  ∀ (s : State) (w : WindowNo) (x : CfgField) (b : Byte),
    s.cfg.cfgIds.wf → (s.window w).field = s.cfg.cfgIds.idOf x →
    (∃ t, exec (.rdCfgData w) s = .next t ∧ t.rdata = some (fieldByte s (s.activeIx w) x) ∧
      OnlyChanges [] s t) ∧
    (∃ t, exec (.wrCfgData w b) s = .next t ∧
      fieldByte t (s.activeIx w) x = b ∧
      (∀ y : CfgField, y ≠ x →
        fieldByte t (s.activeIx w) y = fieldByte s (s.activeIx w) y) ∧
      (∀ j, j ≠ s.activeIx w → t.slot j = s.slot j) ∧
      OnlyChanges [.slots, .dma] s t)

/-- Rule R168: a byte set into a defined field is the byte got back. The spec marks the rule as
derived. -/
def Obligations.CfgFieldReadsBackWhatWasWritten : Prop :=
  ∀ (s : State) (w : WindowNo) (x : CfgField) (b : Byte),
    s.cfg.cfgIds.wf → (s.window w).field = s.cfg.cfgIds.idOf x →
    ∃ t, runEvents [transaction (.wrCfgData w b), transaction (.rdCfgData w)] s = .next t ∧
      t.rdata = some b

/-! ### Window commands -/

/-- Rule R182, rule R183, rule R184. -/
def Obligations.WindowCommandsMoveTheActiveSlotsAddresses : Prop :=
  ∀ (s : State) (w : WindowNo),
    (∃ t, exec (.wcmdResetIndex w) s = .next t ∧
      t.slot (s.activeIx w) = { s.activeSlot w with cur := (s.activeSlot w).dflt } ∧
      OnlyChangesSlot (s.activeIx w) s t) ∧
    (∃ t, exec (.wcmdSetDefaultToAddr w) s = .next t ∧
      t.slot (s.activeIx w) = { s.activeSlot w with dflt := (s.activeSlot w).cur } ∧
      OnlyChangesSlot (s.activeIx w) s t) ∧
    (∃ t, exec (.wcmdSetLimitToAddr w) s = .next t ∧
      t.slot (s.activeIx w) = { s.activeSlot w with lim := (s.activeSlot w).cur } ∧
      OnlyChangesSlot (s.activeIx w) s t)

/-! ### Shared registers -/

/-- Rule R35, rule R280: the bits of a DEVICE_STATUS read, under admissible parameters. The place of
DMA_ERROR and the reserved bits that read 0 are the spec's own decision D8 (log entries 5 and 13).
-/
def Obligations.DeviceStatusReadComposesItsBits : Prop :=
  ∀ s : State, s.cfg.numbersWf →
    ∃ t v, exec .rdDeviceStatus s = .next t ∧ t.rdata = some v ∧ OnlyChanges [] s t ∧
      v.getLsbD 7 = s.status.systemReady ∧ v.getLsbD 6 = s.status.dmaActive ∧
      v.getLsbD s.cfg.statusDmaErrorBit = s.status.dmaError ∧
      v.getLsbD 2 = s.status.memoryError ∧
      v.getLsbD 1 = (s.irq.enable && (s.irq.cause &&& s.irq.mask) != 0x0000#16) ∧
      ∀ n : Fin 8, (n = 0 ∨ n = 3 ∨ n = 4 ∨ n = 5) → n ≠ s.cfg.statusDmaErrorBit →
        v.getLsbD n = false

/-- Rule R282 to rule R285, rule R332: IRQ_CAUSE reads the raw cause bits, neither masked nor gated,
and is write-1-to-clear, bit by bit. -/
def Obligations.IrqCauseReadsRawAndClearsBitsWrittenOne : Prop :=
  ∀ (s : State) (b : Byte),
    (∃ t, exec .rdIrqCauseLow s = .next t ∧ t.rdata = some (s.irq.cause.extractLsb' 0 8) ∧
      OnlyChanges [] s t) ∧
    (∃ t, exec .rdIrqCauseHigh s = .next t ∧ t.rdata = some (s.irq.cause.extractLsb' 8 8) ∧
      OnlyChanges [] s t) ∧
    (∃ t, exec (.wrIrqCauseLow b) s = .next t ∧
      (∀ n < 8, t.irq.cause.getLsbD n = (s.irq.cause.getLsbD n && !b.getLsbD n)) ∧
      (∀ n, 8 ≤ n → t.irq.cause.getLsbD n = s.irq.cause.getLsbD n) ∧
      t.irq.mask = s.irq.mask ∧ t.irq.enable = s.irq.enable ∧ OnlyChanges [.irq] s t) ∧
    (∃ t, exec (.wrIrqCauseHigh b) s = .next t ∧
      (∀ n < 8, t.irq.cause.getLsbD n = s.irq.cause.getLsbD n) ∧
      (∀ n < 8, t.irq.cause.getLsbD (8 + n) = (s.irq.cause.getLsbD (8 + n) && !b.getLsbD n)) ∧
      t.irq.mask = s.irq.mask ∧ t.irq.enable = s.irq.enable ∧ OnlyChanges [.irq] s t)

/-- Rule R286 to rule R289: the two bytes of the mask. -/
def Obligations.IrqMaskBytesReadAndWrite : Prop :=
  ∀ (s : State) (b : Byte),
    (∃ t, exec .rdIrqMaskLow s = .next t ∧ t.rdata = some (s.irq.mask.extractLsb' 0 8) ∧
      OnlyChanges [] s t) ∧
    (∃ t, exec .rdIrqMaskHigh s = .next t ∧ t.rdata = some (s.irq.mask.extractLsb' 8 8) ∧
      OnlyChanges [] s t) ∧
    (∃ t, exec (.wrIrqMaskLow b) s = .next t ∧
      t.irq = { s.irq with mask := s.irq.mask.extractLsb' 8 8 ++ b } ∧ OnlyChanges [.irq] s t) ∧
    (∃ t, exec (.wrIrqMaskHigh b) s = .next t ∧
      t.irq = { s.irq with mask := b ++ s.irq.mask.extractLsb' 0 8 } ∧ OnlyChanges [.irq] s t)

/-- Rule R290, rule R291: IRQ_ENABLE normalises to 0 or 1. The byte that a read returns is the
spec's own decision D27 (log entry 24). -/
def Obligations.IrqEnableNormalises : Prop :=
  ∀ (s : State) (b : Byte),
    (∃ t, exec .rdIrqEnable s = .next t ∧ OnlyChanges [] s t ∧
      (s.irq.enable = true → t.rdata = some 0x01#8) ∧
      (s.irq.enable = false → t.rdata = some 0x00#8)) ∧
    (∃ t, exec (.wrIrqEnable b) s = .next t ∧
      (t.irq.enable = true ↔ b ≠ 0x00#8) ∧
      t.irq.cause = s.irq.cause ∧ t.irq.mask = s.irq.mask ∧ OnlyChanges [.irq] s t)

/-- Rule R33, rule R318: the IRQ line is asserted exactly when the global enable is on and some cause
bit is set whose mask bit is set. -/
def Obligations.IrqLineFollowsCauseMaskAndEnable : Prop :=
  ∀ s : State,
    s.irqLine = true ↔ s.irq.enable = true ∧
      ∃ n < 16, s.irq.cause.getLsbD n = true ∧ s.irq.mask.getLsbD n = true

/-! ### Shared commands -/

/-- Rule R192: RESET_ALL. -/
def Obligations.ResetAllRestoresEveryCurToItsDef : Prop :=
  ∀ s : State, ∃ t, exec .scmdResetAll s = .next t ∧
    (∀ k, t.slot k = { s.slot k with cur := (s.slot k).dflt }) ∧ OnlyChanges [.slots] s t

/-- Rule R193, rule R361, rule R362: FACTORY_RESET. The scope of FACTORY_RESET is the spec's own decision D14,
the abandoned transfer D15, the DMA record D24, the cleared error bits D12 and SYSTEM_READY D13 (log
entries 15, 16, 21, 14 and 22). -/
def Obligations.FactoryResetReinitialisesTheEngine : Prop :=
  ∀ s : State, ∃ t, exec .scmdFactoryReset s = .next t ∧
    (∀ k : SlotIx, t.slot k =
      { cur := (s.cfg.layout[k.toNat]'k.isLt).defaultAddress
        dflt := (s.cfg.layout[k.toNat]'k.isLt).defaultAddress
        lim := (s.cfg.layout[k.toNat]'k.isLt).limitAddress
        step := (s.cfg.layout[k.toNat]'k.isLt).step
        flags := (s.cfg.layout[k.toNat]'k.isLt).flags }) ∧
    t.dma = { src := 0x00#8, dst := 0x00#8, count := 0x0000#16 } ∧
    (∀ a, t.memRead a = 0x00#8) ∧ t.xfer = none ∧
    t.status = { memoryError := false, dmaError := false, dmaActive := false, systemReady := true } ∧
    t.irq = { s.irq with cause := 0x0000#16 } ∧ t.irqLine = false ∧
    OnlyChanges [.slots, .dma, .store, .xfer, .status, .irq] s t

/-- Rule R194: CLEAR_IRQ. -/
def Obligations.ClearIrqClearsEveryCauseBit : Prop :=
  ∀ s : State, ∃ t, exec .scmdClearIrq s = .next t ∧
    t.irq = { s.irq with cause := 0x0000#16 } ∧ t.irqLine = false ∧ OnlyChanges [.irq] s t

/-- Rule R196, rule R360, rule R361: SYSTEM_RESET leaves every state element at its reset value. The
atomic reset is the spec's own decision D16, no transfer D15, the DMA record D24, the cleared error
bits D12 and SYSTEM_READY D13 (log entries 9, 16, 21, 14 and 22). That the parameters and the
schedule are kept is the model's choice (log entry 29). -/
def Obligations.SystemResetResetsEveryElement : Prop :=
  ∀ s : State, ∃ t, exec .scmdSystemReset s = .next t ∧
    t.irq = { cause := 0x0000#16, mask := 0xFFFF#16, enable := true } ∧
    (∀ j : Fin 8, t.win[j] = { active := 0x00#8, field := 0x00#8 }) ∧
    (∀ k : SlotIx, t.slot k =
      { cur := (s.cfg.layout[k.toNat]'k.isLt).defaultAddress
        dflt := (s.cfg.layout[k.toNat]'k.isLt).defaultAddress
        lim := (s.cfg.layout[k.toNat]'k.isLt).limitAddress
        step := (s.cfg.layout[k.toNat]'k.isLt).step
        flags := (s.cfg.layout[k.toNat]'k.isLt).flags }) ∧
    t.dma = { src := 0x00#8, dst := 0x00#8, count := 0x0000#16 } ∧
    (∀ a, t.memRead a = 0x00#8) ∧ t.xfer = none ∧
    t.status = { memoryError := false, dmaError := false, dmaActive := false, systemReady := true } ∧
    t.cfg = s.cfg ∧ t.schedule = s.schedule

/-- Rule R224: a COPY_BLOCK of count 0 is a no-op, whatever the addresses and the transfer in
flight. -/
def Obligations.CopyOfZeroBytesIsANoOp : Prop :=
  ∀ s : State, s.dma.count.toNat = 0 →
    ∃ t, exec .scmdCopyBlock s = .next t ∧ OnlyChanges [] s t

/-- Rule R212, rule R211: a nonzero COPY_BLOCK whose source or destination range passes CAPACITY is
rejected with DmaError, and with MemoryError too where the parameter says so; nothing else changes.
Which errors are raised, and the unwrapped sum, are the spec's own decisions D9 and D17 (log entries
18 and 19). -/
def Obligations.CopyOutOfBoundsIsRejected : Prop :=
  ∀ s : State, 1 ≤ s.dma.count.toNat →
    (s.cfg.capacity < (s.slot s.dma.src).cur.toNat + s.dma.count.toNat ∨
      s.cfg.capacity < (s.slot s.dma.dst).cur.toNat + s.dma.count.toNat) →
    ∃ t, exec .scmdCopyBlock s = .next t ∧
      (s.cfg.copyOobRaisesMemoryError = false →
        t.status = { s.status with dmaError := true } ∧
        t.irq = { s.irq with cause := s.irq.cause ||| 0x0008#16 }) ∧
      (s.cfg.copyOobRaisesMemoryError = true →
        t.status = { s.status with dmaError := true, memoryError := true } ∧
        t.irq = { s.irq with cause := s.irq.cause ||| 0x0009#16 }) ∧
      OnlyChanges [.status, .irq] s t

/-- Rule R213: a nonzero in-bounds COPY_BLOCK while DMA_ACTIVE is set is rejected with DmaError and
the transfer in flight is not altered. -/
def Obligations.CopyWhileActiveIsRejected : Prop :=
  ∀ s : State, 1 ≤ s.dma.count.toNat →
    (s.slot s.dma.src).cur.toNat + s.dma.count.toNat ≤ s.cfg.capacity →
    (s.slot s.dma.dst).cur.toNat + s.dma.count.toNat ≤ s.cfg.capacity →
    s.status.dmaActive = true →
    ∃ t, exec .scmdCopyBlock s = .next t ∧
      t.status = { s.status with dmaError := true } ∧
      t.irq = { s.irq with cause := s.irq.cause ||| 0x0008#16 } ∧
      OnlyChanges [.status, .irq] s t

/-- Rule R214, rule R210: a nonzero in-bounds COPY_BLOCK with no transfer in flight is accepted: the
addresses and the count are captured and every byte index is still to do. The order of the checks is
the spec's own decision D17 (log entry 18). -/
def Obligations.CopyIsAcceptedAndCapturesItsRange : Prop :=
  ∀ s : State, 1 ≤ s.dma.count.toNat →
    (s.slot s.dma.src).cur.toNat + s.dma.count.toNat ≤ s.cfg.capacity →
    (s.slot s.dma.dst).cur.toNat + s.dma.count.toNat ≤ s.cfg.capacity →
    s.status.dmaActive = false →
    ∃ t x, exec .scmdCopyBlock s = .next t ∧
      t.status = { s.status with dmaActive := true } ∧ t.xfer = some x ∧
      x.src = (s.slot s.dma.src).cur ∧ x.dst = (s.slot s.dma.dst).cur ∧ x.count = s.dma.count ∧
      (∀ i, i ∈ x.todo ↔ i < s.dma.count.toNat) ∧ x.todo.Nodup ∧
      OnlyChanges [.status, .xfer] s t

/-! ### The other agents -/

/-- Rule R217: DMA.MOVE of an index still to do, both addresses inside the store, moves that byte
and no other. Byte moves are the spec's own decision D18 (log entry 17). -/
def Obligations.DmaMoveMovesOneByte : Prop :=
  ∀ (s : State) (x : Xfer) (i : Nat), s.xfer = some x → i ∈ x.todo → x.todo.Nodup →
    x.src.toNat + i < s.cfg.capacity → x.dst.toNat + i < s.cfg.capacity →
    ∃ t y, runEvent (.dmaMove i) s = .next t ∧
      t.memRead (x.dst.toNat + i) = s.memRead (x.src.toNat + i) ∧
      (∀ a, a ≠ x.dst.toNat + i → t.memRead a = s.memRead a) ∧
      t.xfer = some y ∧ y.src = x.src ∧ y.dst = x.dst ∧ y.count = x.count ∧
      (∀ j, j ∈ y.todo ↔ j ∈ x.todo ∧ j ≠ i) ∧
      OnlyChanges [.store, .xfer] s t

/-- Rule R219: DMA.COMPLETE, enabled only when a transfer is in flight and every byte has been moved,
ends the transfer, clears DMA_ACTIVE and raises DMA_COMPLETE in one step; the IRQ line is then
asserted if cause bit 2 is unmasked and the global enable is on. -/
def Obligations.DmaCompleteEndsTheTransfer : Prop :=
  ∀ s : State,
    (∀ x, s.xfer = some x → x.todo = [] →
      ∃ t, runEvent .dmaComplete s = .next t ∧ t.xfer = none ∧
        t.status = { s.status with dmaActive := false } ∧
        t.irq = { s.irq with cause := s.irq.cause ||| 0x0004#16 } ∧
        (s.irq.mask.getLsbD 2 = true → s.irq.enable = true → t.irqLine = true) ∧
        OnlyChanges [.xfer, .status, .irq] s t) ∧
    ((∀ x, s.xfer = some x → x.todo ≠ []) → ∀ t, runEvent .dmaComplete s ≠ .next t)

/-- Rule R217, rule R219: DMA.MOVE is enabled only for an index still to do and DMA.COMPLETE only
when none is left; the model refuses a schedule that says otherwise (log entry 2). -/
def Obligations.DisabledDmaStepsAreRefused : Prop :=
  ∀ s : State,
    (s.xfer = none → (∀ i, runEvent (.dmaMove i) s = .refused .stepNotEnabled) ∧
      runEvent .dmaComplete s = .refused .stepNotEnabled) ∧
    (∀ x, s.xfer = some x →
      (∀ i, i ∉ x.todo → runEvent (.dmaMove i) s = .refused .stepNotEnabled) ∧
      (x.todo ≠ [] → runEvent .dmaComplete s = .refused .stepNotEnabled))

/-- Rule R311, rule R322: EXT.RAISE sets the named cause bits, masked and disabled ones too, clears
none and changes nothing else. That any bits may be named is the spec's own decision D20 (log entry
25). -/
def Obligations.ExternalRaiseSetsItsCauseBits : Prop :=
  ∀ (s : State) (bits : Half), ∃ t, runEvent (.extRaise bits) s = .next t ∧
    (∀ n, t.irq.cause.getLsbD n = (s.irq.cause.getLsbD n || bits.getLsbD n)) ∧
    t.irq.mask = s.irq.mask ∧ t.irq.enable = s.irq.enable ∧ OnlyChanges [.irq] s t

/-- Rule R360: the reset input leaves the reset state of the same parameters. What the reset does to
the schedule, the parameters and `rdata` is the model's choice (log entry 29); the reset itself
rests on the spec's own decisions D16 and D25. -/
def Obligations.ResetInputGivesTheResetState : Prop :=
  ∀ s : State, runEvent .resetInput s = .next { State.initial s.cfg with schedule := s.schedule }

/-- Rule R216, rule R218, rule R226: a COPY_BLOCK between disjoint ranges, its bytes moved in any
order whatever and then completed, leaves in the destination range the bytes of the source range,
every other byte and every slot as before, DMA_ACTIVE clear and DMA_COMPLETE raised. Byte moves in
any order are the spec's own decision D18 (log entry 17). -/
def Obligations.BlockCopyCopiesInAnyOrder : Prop :=
  ∀ (s : State) (order : List Nat), 1 ≤ s.dma.count.toNat →
    (s.slot s.dma.src).cur.toNat + s.dma.count.toNat ≤ s.cfg.capacity →
    (s.slot s.dma.dst).cur.toNat + s.dma.count.toNat ≤ s.cfg.capacity →
    s.status.dmaActive = false →
    ((s.slot s.dma.src).cur.toNat + s.dma.count.toNat ≤ (s.slot s.dma.dst).cur.toNat ∨
      (s.slot s.dma.dst).cur.toNat + s.dma.count.toNat ≤ (s.slot s.dma.src).cur.toNat) →
    order.Perm (List.range s.dma.count.toNat) →
    ∃ t, runEvents (transaction .scmdCopyBlock :: dmaSchedule order) s = .next t ∧
      (∀ i < s.dma.count.toNat,
        t.memRead ((s.slot s.dma.dst).cur.toNat + i) =
          s.memRead ((s.slot s.dma.src).cur.toNat + i)) ∧
      (∀ a, (a < (s.slot s.dma.dst).cur.toNat ∨
          (s.slot s.dma.dst).cur.toNat + s.dma.count.toNat ≤ a) → t.memRead a = s.memRead a) ∧
      t.xfer = none ∧ t.status = s.status ∧
      t.irq = { s.irq with cause := s.irq.cause ||| 0x0004#16 } ∧
      OnlyChanges [.store, .xfer, .irq] s t

/-- Rule R223: a COPY_BLOCK of a range onto itself leaves the store unchanged, whatever the order of
the moves. The spec marks the rule as derived. -/
def Obligations.CopyOntoItselfLeavesTheStore : Prop :=
  ∀ (s : State) (order : List Nat), 1 ≤ s.dma.count.toNat →
    (s.slot s.dma.src).cur.toNat + s.dma.count.toNat ≤ s.cfg.capacity →
    (s.slot s.dma.dst).cur = (s.slot s.dma.src).cur →
    s.status.dmaActive = false →
    order.Perm (List.range s.dma.count.toNat) →
    ∃ t, runEvents (transaction .scmdCopyBlock :: dmaSchedule order) s = .next t ∧
      ∀ a, t.memRead a = s.memRead a

/-! ### Reset -/

/-- Rule R42, rule R43, rule R45 to rule R49: the reset values that the spec states, and rule R44
for the layout that the state's parameters carry. The zero DMA record is the spec's own decision
D24, SYSTEM_READY D13, no transfer D15 (log entries 21, 22 and 16). -/
def Obligations.ResetStateHoldsTheStatedValues : Prop :=
  State.reset.irq = { cause := 0x0000#16, mask := 0xFFFF#16, enable := true } ∧
  (∀ j : Fin 8, State.reset.win[j] = { active := 0x00#8, field := 0x00#8 }) ∧
  (∀ k : SlotIx, State.reset.slot k =
    { cur := (State.reset.cfg.layout[k.toNat]'k.isLt).defaultAddress
      dflt := (State.reset.cfg.layout[k.toNat]'k.isLt).defaultAddress
      lim := (State.reset.cfg.layout[k.toNat]'k.isLt).limitAddress
      step := (State.reset.cfg.layout[k.toNat]'k.isLt).step
      flags := (State.reset.cfg.layout[k.toNat]'k.isLt).flags }) ∧
  State.reset.dma = { src := 0x00#8, dst := 0x00#8, count := 0x0000#16 } ∧
  State.reset.status =
    { memoryError := false, dmaError := false, dmaActive := false, systemReady := true } ∧
  (∀ a, State.reset.memRead a = 0x00#8) ∧
  State.reset.xfer = none ∧ State.reset.irqLine = false

/-- Rule R363, rule R364: TESTCFG, which the model's reset state takes (log entries 4 and 5), is
admissible: its layout satisfies the constraints, with fixed regions of 256 bytes at slots 0 to 127
and user slots from 128 on, and it is usable. What each role leaves unassigned is log entry 30. -/
def Obligations.TestLayoutMeetsTheLayoutConstraints : Prop :=
  State.reset.cfg = testcfg ∧ testcfg.wf ∧ testcfg.layoutUsable ∧
  (∀ k : Fin 256, k.val < 128 → testcfg.layout[k].role = .fixed 0x100) ∧
  (∀ k : Fin 256, 128 ≤ k.val → testcfg.layout[k].role = .user 0x100)

/-! ### Invariants and whole-machine rules -/

/-- Rule R31, rule R36, rule R37, rule R46, rule R71, rule R363: the invariant holds of the state
after reset under every admissible parameters, and of the reset state, under the parameters that the
model chose (log entries 4 and 5). Windows 4 to 7 rest on the spec's own decision D19, SYSTEM_READY
on D13 (log entries 8 and 22); the rising list of indices and what a layout's roles leave unassigned
are the model's reading (log entries 28 and 30). -/
def Obligations.InvariantHoldsAtReset : Prop :=
  (∀ c : Config, c.wf → (State.initial c).Inv) ∧ State.reset.Inv

/-- Rule R31, rule R36, rule R37, rule R46, rule R71, rule R363: whatever agent steps, the invariant
is kept. Windows 4 to 7 rest on the spec's own decision D19, SYSTEM_READY on D13 (log entries 8 and
22); the rising list of indices and what a layout's roles leave unassigned are the model's reading
(log entries 28 and 30). -/
def Obligations.EveryStepKeepsTheInvariant : Prop :=
  ∀ s t : State, s.Inv → step s = .next t → t.Inv

/-- Rule R217, rule R247: from a state of the invariant no step faults, and none is refused but a
step of the DMA agent that is not enabled. The refusal is the model's choice (log entry 2). The
invariant rests on log entries 8, 22, 28 and 30. -/
def Obligations.InvariantStatesNeverFault : Prop :=
  ∀ s : State, s.Inv →
    (∀ r, step s ≠ .fault r) ∧
    (∀ r, step s = .refused r → r = .stepNotEnabled ∧
      ∃ rest, s.schedule = .dmaComplete :: rest ∨ ∃ i, s.schedule = .dmaMove i :: rest)

/-- Rule R34, rule R325: no step clears a set error status bit but FACTORY_RESET, SYSTEM_RESET and
the reset input. Stickiness is the spec's own decision D12 (log entry 14). -/
def Obligations.ErrorStatusBitsAreSticky : Prop :=
  ∀ (s t : State) (e : Event), runEvent e s = .next t →
    e ≠ .bus 0x1FF02#17 → e ≠ .bus 0x1FF05#17 → e ≠ .resetInput →
    (s.status.memoryError = true → t.status.memoryError = true) ∧
    (s.status.dmaError = true → t.status.dmaError = true)

/-- Rule R32, rule R325: a set cause bit is cleared only by a write of 1 to its place in its
IRQ_CAUSE register, by CLEAR_IRQ, FACTORY_RESET, SYSTEM_RESET or the reset input. That FACTORY_RESET
clears them is the spec's own decision D14 (log entry 15). -/
def Obligations.CauseBitsAreClearedOnlyByAcknowledgeOrReset : Prop :=
  ∀ (s t : State) (e : Event) (n : Nat), n < 16 → runEvent e s = .next t →
    s.irq.cause.getLsbD n = true → t.irq.cause.getLsbD n = false →
    e = .resetInput ∨ e = .bus 0x1FF02#17 ∨ e = .bus 0x1FF03#17 ∨ e = .bus 0x1FF05#17 ∨
    ∃ b : Byte, (n < 8 ∧ b.getLsbD n = true ∧ e = .bus (1#1 ++ 0xF1#8 ++ b)) ∨
      (8 ≤ n ∧ b.getLsbD (n - 8) = true ∧ e = .bus (1#1 ++ 0xF2#8 ++ b))

/-- Rule R320, rule R325, rule R324: a step that sets a cause bit that was clear sets bit 0 from an
out-of-bounds DATA_PORT access or a COPY_BLOCK, bit 3 from a COPY_BLOCK, bit 2 from DMA.COMPLETE, or
a bit that EXT.RAISE names; the block itself raises no other (rule R323). That the block never
raises INDEX_OVERFLOW is the spec's own decision D20 (log entry 25). -/
def Obligations.CauseBitsAreRaisedOnlyByTheirSources : Prop :=
  ∀ (s t : State) (e : Event) (n : Nat), runEvent e s = .next t →
    s.irq.cause.getLsbD n = false → t.irq.cause.getLsbD n = true →
    (∃ bits, e = .extRaise bits ∧ bits.getLsbD n = true) ∨
    (n = 2 ∧ e = .dmaComplete) ∨
    (n = 3 ∧ e = .bus 0x1FF04#17) ∨
    (n = 0 ∧ (e = .bus 0x1FF04#17 ∧ s.cfg.copyOobRaisesMemoryError = true ∨
      ∃ T w, e = .bus T ∧ busAddr T = 0#2 ++ w ++ 1#4 ∧
        s.cfg.capacity ≤ (s.activeSlot w).cur.toNat))

/-- Rule R270, rule R271: a step changes `win[j]` only where it writes IDX_SELECT or
CFG_FIELD_SELECT of window `j`, or resets the whole block. That FACTORY_RESET keeps the windows is
the spec's own decision D14, that no transaction reaches windows 4 to 7 its decision D19 (log
entries 15 and 8). -/
def Obligations.WindowStateChangesOnlyByItsOwnRegisters : Prop :=
  ∀ (s t : State) (e : Event) (j : Fin 8), runEvent e s = .next t → t.win[j] ≠ s.win[j] →
    e = .resetInput ∨ e = .bus 0x1FF05#17 ∨
    ∃ (w : WindowNo) (b : Byte), windowIx w = j ∧
      (e = .bus (1#1 ++ (0#2 ++ w ++ 0#4) ++ b) ∨ e = .bus (1#1 ++ (0#2 ++ w ++ 2#4) ++ b))

/-- Rule R21, rule R138, rule R215: a step changes slot `k` only where it is a transaction of a
window that points at `k`, RESET_ALL, FACTORY_RESET, SYSTEM_RESET or the reset input; COPY_BLOCK and
the DMA agent change no slot. -/
def Obligations.SlotsChangeOnlyThroughTheirWindowsOrResets : Prop :=
  ∀ (s t : State) (e : Event) (k : SlotIx), runEvent e s = .next t → t.slot k ≠ s.slot k →
    e = .resetInput ∨ e = .bus 0x1FF01#17 ∨ e = .bus 0x1FF02#17 ∨ e = .bus 0x1FF05#17 ∨
    ∃ (T : BusWord) (w : WindowNo) (off : BitVec 4), e = .bus T ∧
      busAddr T = 0#2 ++ w ++ off ∧ s.activeIx w = k

/-- Rule R36, rule R41: a step changes a byte of the store only where it is a write of a DATA_PORT
whose slot points at the byte, a byte move of the transfer in flight onto it, or a reset. -/
def Obligations.StoreChangesOnlyByItsWriters : Prop :=
  ∀ (s t : State) (e : Event) (a : Nat), runEvent e s = .next t → t.memRead a ≠ s.memRead a →
    e = .resetInput ∨ e = .bus 0x1FF02#17 ∨ e = .bus 0x1FF05#17 ∨
    (∃ (w : WindowNo) (b : Byte), e = .bus (1#1 ++ (0#2 ++ w ++ 1#4) ++ b) ∧
      a = (s.activeSlot w).cur.toNat ∧ t.memRead a = b) ∨
    (∃ i x, e = .dmaMove i ∧ s.xfer = some x ∧ a = x.dst.toNat + i)
end

