-- ==== Sys2Proof/Laws/Config.lean ====
section
/-! SUPPORT. The laws of the factory layout (spec/70_reset_and_hazards.md rule R363): what an admissible
row leaves in its slot after initialisation, and how the constraints on a layout that is given row by
row are shown row by row. -/

namespace Sys2Proof

/-- A layout that lists the rows `f 0`, `f 1`, … meets rule R363 when each row does, when 128 of them
are user slots, and when each row is disjoint from the later ones. -/
theorem Config.layoutWf_of_rows {c : Config} {f : Nat → LayoutEntry}
    (rows : c.layout.toList = (List.range 256).map f)
    (row_wf : ∀ k < 256, (f k).wf c = true)
    (users : ((List.range 256).map f).countP LayoutEntry.isUser = 128)
    (apart : ∀ i j, i < j → j < 256 → (f i).disjoint (f j) = true) : c.layoutWf := by
  refine ⟨?_, rows ▸ users, ?_⟩
  · rw [rows]
    intro e he
    obtain ⟨k, hk, rfl⟩ := List.mem_map.1 he
    exact row_wf k (List.mem_range.1 hk)
  · rw [rows, List.pairwise_map]
    exact List.pairwise_lt_range.imp_of_mem fun _ hj hij => apart _ _ hij (List.mem_range.1 hj)

/-- The row of a slot in an admissible layout meets rule R363. -/
theorem Config.wf.layout_row {c : Config} (h : c.wf) (k : Nat) (hk : k < 256) :
    (c.layout[k]'hk).wf c = true :=
  h.2.1 _ (by simp)

/-- Two regions that are disjoint, each of a slot that has a role, have no byte in common. -/
theorem LayoutEntry.disjoint_iff {e f : LayoutEntry} :
    e.disjoint f = true ↔ e.role = .unassigned ∨ f.role = .unassigned ∨
      e.regionEnd ≤ f.defaultAddress.toNat ∨ f.regionEnd ≤ e.defaultAddress.toNat := by
  simp [LayoutEntry.disjoint, or_assoc]

end Sys2Proof

namespace Sys2Proof.Machine

/-- `cur` starts at the default address (rule R363 (b), rule R44). -/
@[simp] theorem Slot.factory_cur (e : LayoutEntry) :
    (Slot.factory e).cur = (Slot.factory e).dflt := rfl

/-- A slot to which the layout assigns nothing is 0 after initialisation (rule R363 (a)). -/
theorem Slot.factory_unassigned {c : Config} {e : LayoutEntry} (h : e.wf c = true)
    (hr : e.role = .unassigned) :
    Slot.factory e = ⟨0x000000#24, 0x000000#24, 0x000000#24, 0x00#8, 0x00#8⟩ := by
  simp only [LayoutEntry.wf, hr, Bool.and_eq_true, beq_iff_eq] at h
  obtain ⟨⟨⟨hd, hl⟩, hs⟩, hf⟩ := h
  simp [Slot.factory, hd, hl, hs, hf]

/-- A user slot steps and does not wrap after initialisation, and its limit, which the layout does not
assign, is 0 (rule R363 (a) and (c)). -/
theorem Slot.factory_user {c : Config} {e : LayoutEntry} {n : Nat} (h : e.wf c = true)
    (hr : e.role = .user n) :
    (Slot.factory e).lim = 0x000000#24 ∧ (Slot.factory e).autoStep c = true ∧
      (Slot.factory e).wrapOnLimit c = false := by
  simp only [LayoutEntry.wf, hr, Bool.and_eq_true, beq_iff_eq, Bool.not_eq_true'] at h
  exact ⟨h.1.1.2, h.1.2, h.2⟩

/-- A slot of a fixed-size region wraps after initialisation, at the end of its region (rule R363
(d)). -/
theorem Slot.factory_fixed {c : Config} {e : LayoutEntry} {n : Nat} (h : e.wf c = true)
    (hr : e.role = .fixed n) :
    (Slot.factory e).lim.toNat = (Slot.factory e).dflt.toNat + n ∧
      (Slot.factory e).wrapOnLimit c = true := by
  simp only [LayoutEntry.wf, hr, Bool.and_eq_true, beq_iff_eq] at h
  exact ⟨h.1.2, h.2⟩

end Sys2Proof.Machine
end

