-- ==== Sys2Proof/Laws/Decode.lean ====
section
/-! SUPPORT. The laws of the transaction word and its bytes: the fields of a word that was put
together are the ones put in, and the bytes of a word are that word. -/

namespace Sys2Proof

@[simp] theorem busRw_busWord (rw : Bool) (addr data : Byte) : busRw (busWord rw addr data) = rw := by
  simp only [busRw, busWord, BitVec.getLsbD_append]
  simp

@[simp] theorem busAddr_busWord (rw : Bool) (addr data : Byte) :
    busAddr (busWord rw addr data) = addr := by
  apply BitVec.eq_of_getLsbD_eq
  intro i hi
  simp only [busAddr, busWord, BitVec.getLsbD_extractLsb', BitVec.getLsbD_append]
  have h1 : ¬ 8 + i < 8 := by omega
  simp [h1, hi]

@[simp] theorem busData_busWord (rw : Bool) (addr data : Byte) :
    busData (busWord rw addr data) = data := by
  apply BitVec.eq_of_getLsbD_eq
  intro i hi
  simp only [busData, busWord, BitVec.getLsbD_extractLsb', BitVec.getLsbD_append]
  simp [hi]

/-- A word is its three fields. -/
theorem busWord_fields (T : BusWord) : busWord (busRw T) (busAddr T) (busData T) = T := by
  apply BitVec.eq_of_getLsbD_eq
  intro i hi
  simp only [busRw, busAddr, busData, busWord, BitVec.getLsbD_extractLsb', BitVec.getLsbD_append]
  by_cases h1 : i < 8
  · simp [h1]
  · by_cases h2 : i < 16
    · have e : 8 + (i - 8) = i := by omega
      have h3 : i - 8 < 8 := by omega
      simp [h1, h3, e]
    · have e : i = 16 := by omega
      subst e
      simp

/-- Every word is put together from a direction, an address and a data byte. -/
theorem exists_busWord (T : BusWord) : ∃ rw addr data, T = busWord rw addr data :=
  ⟨_, _, _, (busWord_fields T).symm⟩

/-- The bytes of a word hold that word. -/
theorem wordOfBytes_wordBytes (T : BusWord) :
    wordOfBytes (T.extractLsb' 0 8) (T.extractLsb' 8 8) ((T.extractLsb' 16 1).setWidth 8) =
      .ok T := by
  have h : ((T.extractLsb' 16 1).setWidth 8).toNat < 2 := by
    have := (T.extractLsb' 16 1).isLt
    rw [BitVec.toNat_setWidth]
    exact Nat.lt_of_le_of_lt (Nat.mod_le _ _) this
  simp only [wordOfBytes, if_pos h]
  congr 1
  apply BitVec.eq_of_getLsbD_eq
  intro i hi
  simp only [BitVec.getLsbD_extractLsb', BitVec.getLsbD_append, BitVec.getLsbD_setWidth]
  by_cases h1 : i < 8
  · simp [h1]
  · by_cases h2 : i - 8 < 8
    · have e : 8 + (i - 8) = i := by omega
      simp [h1, h2, e]
    · have e : i = 16 := by omega
      subst e
      simp

/-- Decoding the bytes of a transaction word decodes the word. -/
theorem decode_wordBytes (ids : CfgIds) (T : BusWord) :
    decode ids (wordBytes T) = .ok (decodeBus T) := by
  simp only [decode, wordBytes, wordOfBytes_wordBytes]
  rfl

/-- Decoding the bytes of a transaction word and a field id selects the CFG row. -/
theorem decode_wordBytes_field (ids : CfgIds) (T : BusWord) (f : Byte) :
    decode ids (wordBytes T ++ [f]) = decodeCfgWord ids T f := by
  simp only [decode, wordBytes, List.cons_append, List.nil_append, wordOfBytes_wordBytes]
  rfl

/-- Decoding a word that was put together goes by its fields (rule R240, rule R241). -/
theorem decodeBus_busWord (rw : Bool) (addr data : Byte) :
    decodeBus (busWord rw addr data) = decodeTransaction rw (decodeAddr addr) data := by
  simp [decodeBus]

/-- An address of a wired window decodes to that window and offset. -/
theorem decodeAddr_windowAddr (w : WindowNo) (off : BitVec 4) :
    decodeAddr (windowAddr w off) = .window (w.setWidth 3) off := by
  revert w off; decide

/-- An address of the reserved windows decodes to a window number of 4 or above. -/
theorem decodeAddr_reservedWindowAddr (low : BitVec 6) :
    decodeAddr (reservedWindowAddr low) =
      .window (1#1 ++ low.extractLsb' 4 2) (low.extractLsb' 0 4) := by
  revert low; decide

/-- An address of the shared space decodes to its register number. -/
theorem decodeAddr_sharedAddr (sreg : BitVec 7) :
    decodeAddr (sharedAddr sreg) = .shared sreg := by
  revert sreg; decide

/-- Every address is a wired window's, a reserved window's or the shared space's (rule R248). -/
theorem addr_cases (addr : Byte) :
    (∃ w off, addr = windowAddr w off) ∨ (∃ low, addr = reservedWindowAddr low) ∨
      ∃ sreg, addr = sharedAddr sreg := by
  have h : ∀ a : Byte, a = windowAddr (a.extractLsb' 4 2) (a.extractLsb' 0 4) ∨
      a = reservedWindowAddr (a.extractLsb' 0 6) ∨ a = sharedAddr (a.extractLsb' 0 7) := by decide
  exact (h addr).imp (fun e => ⟨_, _, e⟩) (Or.imp (fun e => ⟨_, e⟩) (fun e => ⟨_, e⟩))

/-- A transaction with a wired window selects a row of the window's registers (rule R240, rule
R241). -/
theorem decodeTransaction_window (rw : Bool) (w : WindowNo) (off : BitVec 4) (data : Byte) :
    decodeTransaction rw (decodeAddr (windowAddr w off)) data =
      if rw then decodeWindowWrite w off data else decodeWindowRead w off := by
  have h1 : (w.setWidth 3).toNat < 4 := by
    rw [BitVec.toNat_setWidth]
    exact Nat.lt_of_le_of_lt (Nat.mod_le _ _) w.isLt
  have h2 : (w.setWidth 3).setWidth 2 = w := by revert w; decide
  simp only [decodeAddr_windowAddr, decodeTransaction, if_pos h1, h2]

/-- A transaction with a reserved window selects a reserved row (rule R244). -/
theorem decodeTransaction_reservedWindow (rw : Bool) (low : BitVec 6) (data : Byte) :
    decodeTransaction rw (decodeAddr (reservedWindowAddr low)) data =
      if rw then .wrWinReserved low data else .rdWinReserved low := by
  have h1 : ¬ (1#1 ++ low.extractLsb' 4 2 : BitVec 3).toNat < 4 := by revert low; decide
  have h2 : (1#1 ++ low.extractLsb' 4 2 : BitVec 3).setWidth 2 ++ low.extractLsb' 0 4 = low := by
    revert low; decide
  simp only [decodeAddr_reservedWindowAddr, decodeTransaction, if_neg h1, h2]

/-- A transaction with the shared space selects a row of the shared registers (rule R240, rule
R241). -/
theorem decodeTransaction_shared (rw : Bool) (sreg : BitVec 7) (data : Byte) :
    decodeTransaction rw (decodeAddr (sharedAddr sreg)) data =
      if rw then decodeSharedWrite sreg data else decodeSharedRead sreg := by
  simp only [decodeAddr_sharedAddr, decodeTransaction]

/-- Under an injective CFG_ID the id of a field names that field (rule R167). -/
theorem fieldOf_idOf (ids : CfgIds) (h : ids.wf) (x : CfgField) :
    ids.fieldOf (ids.idOf x) = some x := by
  have hall : ∀ y : CfgField, y ∈ CfgField.all := by intro y; cases y <;> decide
  have hinj : ∀ y, ids.idOf y = ids.idOf x → y = x :=
    fun y e => List.inj_on_of_nodup_map h (hall y) (hall x) e
  unfold CfgIds.fieldOf
  cases hf : CfgField.all.find? (fun y => ids.idOf y == ids.idOf x) with
  | none =>
    have := List.find?_eq_none.mp hf x (hall x)
    simp at this
  | some y =>
    have := List.find?_some hf
    rw [hinj y (by simpa using this)]

/-- A field id names a field exactly when CFG_ID assigns it (rule R166). -/
theorem fieldOf_eq_none (ids : CfgIds) (f : Byte) :
    ids.fieldOf f = none ↔ ∀ x, ids.idOf x ≠ f := by
  unfold CfgIds.fieldOf
  rw [List.find?_eq_none]
  constructor
  · intro h x
    have hx : x ∈ CfgField.all := by cases x <;> decide
    simpa using h x hx
  · intro h x _
    simpa using h x

/-- The field that an id names has that id. -/
theorem idOf_of_fieldOf (ids : CfgIds) (f : Byte) (x : CfgField) (h : ids.fieldOf f = some x) :
    ids.idOf x = f := by
  simpa using List.find?_some h

end Sys2Proof
end

