-- ==== Sys2Proof/Laws/Memory.lean ====
section
/-! SUPPORT. The laws of the backing store: a read after a write gives the byte written, a write
leaves every other address alone, and every write keeps the canonical form. -/

namespace Sys2Proof.Machine

@[simp] theorem Memory.read_nil (a : Nat) : Memory.read [] a = unlistedByte := rfl

theorem Memory.read_cons (k : Nat) (v : Byte) (m : Memory) (a : Nat) :
    Memory.read ((k, v) :: m) a = if k = a then v else m.read a := rfl

theorem Memory.read_insertCell (m : Memory) (a b : Nat) (v : Byte) (h : ∀ c ∈ m, c.1 ≠ a) :
    (Memory.insertCell a v m).read b = if a = b then v else m.read b := by
  induction m with
  | nil => rfl
  | cons c m ih =>
    have hc : c.1 ≠ a := h c (by simp)
    have hm : ∀ d ∈ m, d.1 ≠ a := fun d hd => h d (by simp [hd])
    simp only [Memory.insertCell]
    split
    · rfl
    · rw [Memory.read_cons, Memory.read_cons, ih hm]
      by_cases hb : c.1 = b
      · have : a ≠ b := fun e => hc (hb.trans e.symm)
        simp [hb, this]
      · simp [hb]

theorem Memory.read_eraseCell (m : Memory) (a b : Nat) :
    (m.eraseCell a).read b = if a = b then unlistedByte else m.read b := by
  induction m with
  | nil => simp [Memory.eraseCell]
  | cons c m ih =>
    simp only [Memory.eraseCell, List.filter_cons] at *
    by_cases hc : c.1 = a
    · rw [if_neg (by simpa using hc), ih]
      by_cases hb : a = b
      · simp [hb]
      · obtain ⟨k, x⟩ := c
        have : k ≠ b := fun e => hb (hc.symm.trans e)
        simp [hb, Memory.read_cons, this]
    · rw [if_pos (by simpa using hc), Memory.read_cons, ih, Memory.read_cons]
      by_cases hb : c.1 = b
      · have : a ≠ b := fun e => hc (hb.trans e.symm)
        simp [hb, this]
      · simp [hb]

/-- A write, read at any address: the byte written there, what was there before elsewhere. -/
theorem Memory.read_write (m : Memory) (a b : Nat) (v : Byte) :
    (m.write a v).read b = if a = b then v else m.read b := by
  have h : ∀ c ∈ m.eraseCell a, c.1 ≠ a := by
    intro c hc
    simpa using (List.mem_filter.mp hc).2
  unfold Memory.write
  split
  · rename_i hv
    rw [Memory.read_eraseCell, hv]
  · rw [Memory.read_insertCell _ _ _ _ h, Memory.read_eraseCell]
    split <;> rfl

@[simp] theorem Memory.read_write_same (m : Memory) (a : Nat) (v : Byte) :
    (m.write a v).read a = v := by
  simp [Memory.read_write]

theorem Memory.read_write_other (m : Memory) (a b : Nat) (v : Byte) (h : a ≠ b) :
    (m.write a v).read b = m.read b := by
  simp [Memory.read_write, h]

theorem Memory.mem_insertCell (m : Memory) (a : Nat) (v : Byte) (c : Host.Cell) :
    c ∈ Memory.insertCell a v m ↔ c = (a, v) ∨ c ∈ m := by
  induction m with
  | nil => simp [Memory.insertCell]
  | cons d m ih =>
    simp only [Memory.insertCell]
    split
    · simp
    · simp only [List.mem_cons, ih]
      tauto

/-- Every cell after a write is the one written or one that was there. -/
theorem Memory.mem_write (m : Memory) (a : Nat) (v : Byte) (c : Host.Cell) (h : c ∈ m.write a v) :
    c = (a, v) ∨ c ∈ m := by
  unfold Memory.write at h
  split at h
  · exact .inr (List.mem_filter.mp h).1
  · rcases (Memory.mem_insertCell _ _ _ _).mp h with h | h
    · exact .inl h
    · exact .inr (List.mem_filter.mp h).1

theorem Memory.insertCell_rising (m : Memory) (a : Nat) (v : Byte)
    (hm : m.Pairwise (fun x y => x.1 < y.1)) (h : ∀ c ∈ m, c.1 ≠ a) :
    (Memory.insertCell a v m).Pairwise (fun x y => x.1 < y.1) := by
  induction m with
  | nil => simp [Memory.insertCell]
  | cons d m ih =>
    obtain ⟨hd, hm⟩ := List.pairwise_cons.mp hm
    have hda : d.1 ≠ a := h d (by simp)
    simp only [Memory.insertCell]
    split
    · rename_i hlt
      refine List.pairwise_cons.mpr ⟨?_, List.pairwise_cons.mpr ⟨hd, hm⟩⟩
      intro c hc
      rcases List.mem_cons.mp hc with rfl | hc
      · exact hlt
      · exact Nat.lt_trans hlt (hd c hc)
    · rename_i hge
      refine List.pairwise_cons.mpr ⟨?_, ih hm (fun c hc => h c (by simp [hc]))⟩
      intro c hc
      rcases (Memory.mem_insertCell _ _ _ _).mp hc with rfl | hc
      · exact Nat.lt_of_le_of_ne (Nat.le_of_not_lt hge) hda
      · exact hd c hc

/-- Every write keeps the canonical form. -/
theorem Memory.wf_write (m : Memory) (a : Nat) (v : Byte) (h : m.wf) : (m.write a v).wf := by
  have he : (m.eraseCell a).Pairwise (fun x y => x.1 < y.1) := h.1.filter _
  have hne : ∀ c ∈ m.eraseCell a, c.1 ≠ a := by
    intro c hc
    simpa using (List.mem_filter.mp hc).2
  refine ⟨?_, ?_⟩
  · unfold Memory.write
    split
    · exact he
    · exact Memory.insertCell_rising _ _ _ he hne
  · intro c hc
    by_cases hv : v = unlistedByte
    · simp only [Memory.write, if_pos hv] at hc
      exact h.2 c (List.mem_filter.mp hc).1
    · rcases Memory.mem_write m a v c hc with rfl | hc
      · exact hv
      · exact h.2 c hc

/-- The canonical form holds of the store after initialisation. -/
theorem Memory.wf_nil : Memory.wf [] := ⟨List.Pairwise.nil, by simp⟩

/-- A byte that reads otherwise than an unlisted one is listed. -/
theorem Memory.mem_of_read (m : Memory) (a : Nat) (h : m.read a ≠ unlistedByte) :
    (a, m.read a) ∈ m := by
  induction m with
  | nil => simp at h
  | cons c m ih =>
    rw [Memory.read_cons] at h ⊢
    split
    · rename_i hc
      obtain ⟨k, x⟩ := c
      simp_all
    · rename_i hc
      rw [if_neg hc] at h
      exact List.mem_cons_of_mem _ (ih h)

end Sys2Proof.Machine
end

