-- ==== Sys2Proof/Laws/State.lean ====
section
/-! SUPPORT. One lemma per field per update of State, each true by rfl, and the slots, windows and
bytes of an updated state, so that no later proof unfolds a record update. -/

namespace Sys2Proof.Machine

/-! ### setSlot -/

@[simp] theorem State.setSlot_cfg (s : State) (k : SlotIx) (sl : Slot) :
    (s.setSlot k sl).cfg = s.cfg := rfl
@[simp] theorem State.setSlot_slots (s : State) (k : SlotIx) (sl : Slot) :
    (s.setSlot k sl).slots = s.slots.set k.toNat sl k.isLt := rfl
@[simp] theorem State.setSlot_dma (s : State) (k : SlotIx) (sl : Slot) :
    (s.setSlot k sl).dma = s.dma := rfl
@[simp] theorem State.setSlot_win (s : State) (k : SlotIx) (sl : Slot) :
    (s.setSlot k sl).win = s.win := rfl
@[simp] theorem State.setSlot_irq (s : State) (k : SlotIx) (sl : Slot) :
    (s.setSlot k sl).irq = s.irq := rfl
@[simp] theorem State.setSlot_status (s : State) (k : SlotIx) (sl : Slot) :
    (s.setSlot k sl).status = s.status := rfl
@[simp] theorem State.setSlot_store (s : State) (k : SlotIx) (sl : Slot) :
    (s.setSlot k sl).store = s.store := rfl
@[simp] theorem State.setSlot_xfer (s : State) (k : SlotIx) (sl : Slot) :
    (s.setSlot k sl).xfer = s.xfer := rfl
@[simp] theorem State.setSlot_rdata (s : State) (k : SlotIx) (sl : Slot) :
    (s.setSlot k sl).rdata = s.rdata := rfl
@[simp] theorem State.setSlot_schedule (s : State) (k : SlotIx) (sl : Slot) :
    (s.setSlot k sl).schedule = s.schedule := rfl

/-! ### mapSlots -/

@[simp] theorem State.mapSlots_cfg (s : State) (f : Slot → Slot) : (s.mapSlots f).cfg = s.cfg := rfl
@[simp] theorem State.mapSlots_slots (s : State) (f : Slot → Slot) :
    (s.mapSlots f).slots = mapVector f s.slots := rfl
@[simp] theorem State.mapSlots_dma (s : State) (f : Slot → Slot) : (s.mapSlots f).dma = s.dma := rfl
@[simp] theorem State.mapSlots_win (s : State) (f : Slot → Slot) : (s.mapSlots f).win = s.win := rfl
@[simp] theorem State.mapSlots_irq (s : State) (f : Slot → Slot) : (s.mapSlots f).irq = s.irq := rfl
@[simp] theorem State.mapSlots_status (s : State) (f : Slot → Slot) :
    (s.mapSlots f).status = s.status := rfl
@[simp] theorem State.mapSlots_store (s : State) (f : Slot → Slot) :
    (s.mapSlots f).store = s.store := rfl
@[simp] theorem State.mapSlots_xfer (s : State) (f : Slot → Slot) :
    (s.mapSlots f).xfer = s.xfer := rfl
@[simp] theorem State.mapSlots_rdata (s : State) (f : Slot → Slot) :
    (s.mapSlots f).rdata = s.rdata := rfl
@[simp] theorem State.mapSlots_schedule (s : State) (f : Slot → Slot) :
    (s.mapSlots f).schedule = s.schedule := rfl

/-! ### setWindow -/

@[simp] theorem State.setWindow_cfg (s : State) (w : WindowNo) (x : Window) :
    (s.setWindow w x).cfg = s.cfg := rfl
@[simp] theorem State.setWindow_slots (s : State) (w : WindowNo) (x : Window) :
    (s.setWindow w x).slots = s.slots := rfl
@[simp] theorem State.setWindow_dma (s : State) (w : WindowNo) (x : Window) :
    (s.setWindow w x).dma = s.dma := rfl
@[simp] theorem State.setWindow_win (s : State) (w : WindowNo) (x : Window) :
    (s.setWindow w x).win = s.win.set (windowIx w) x := rfl
@[simp] theorem State.setWindow_irq (s : State) (w : WindowNo) (x : Window) :
    (s.setWindow w x).irq = s.irq := rfl
@[simp] theorem State.setWindow_status (s : State) (w : WindowNo) (x : Window) :
    (s.setWindow w x).status = s.status := rfl
@[simp] theorem State.setWindow_store (s : State) (w : WindowNo) (x : Window) :
    (s.setWindow w x).store = s.store := rfl
@[simp] theorem State.setWindow_xfer (s : State) (w : WindowNo) (x : Window) :
    (s.setWindow w x).xfer = s.xfer := rfl
@[simp] theorem State.setWindow_rdata (s : State) (w : WindowNo) (x : Window) :
    (s.setWindow w x).rdata = s.rdata := rfl
@[simp] theorem State.setWindow_schedule (s : State) (w : WindowNo) (x : Window) :
    (s.setWindow w x).schedule = s.schedule := rfl

/-! ### reply -/

@[simp] theorem State.reply_cfg (s : State) (v : Byte) : (s.reply v).cfg = s.cfg := rfl
@[simp] theorem State.reply_slots (s : State) (v : Byte) : (s.reply v).slots = s.slots := rfl
@[simp] theorem State.reply_dma (s : State) (v : Byte) : (s.reply v).dma = s.dma := rfl
@[simp] theorem State.reply_win (s : State) (v : Byte) : (s.reply v).win = s.win := rfl
@[simp] theorem State.reply_irq (s : State) (v : Byte) : (s.reply v).irq = s.irq := rfl
@[simp] theorem State.reply_status (s : State) (v : Byte) : (s.reply v).status = s.status := rfl
@[simp] theorem State.reply_store (s : State) (v : Byte) : (s.reply v).store = s.store := rfl
@[simp] theorem State.reply_xfer (s : State) (v : Byte) : (s.reply v).xfer = s.xfer := rfl
@[simp] theorem State.reply_rdata (s : State) (v : Byte) : (s.reply v).rdata = some v := rfl
@[simp] theorem State.reply_schedule (s : State) (v : Byte) :
    (s.reply v).schedule = s.schedule := rfl

/-! ### acknowledge -/

@[simp] theorem State.acknowledge_cfg (s : State) : (s.acknowledge).cfg = s.cfg := rfl
@[simp] theorem State.acknowledge_slots (s : State) : (s.acknowledge).slots = s.slots := rfl
@[simp] theorem State.acknowledge_dma (s : State) : (s.acknowledge).dma = s.dma := rfl
@[simp] theorem State.acknowledge_win (s : State) : (s.acknowledge).win = s.win := rfl
@[simp] theorem State.acknowledge_irq (s : State) : (s.acknowledge).irq = s.irq := rfl
@[simp] theorem State.acknowledge_status (s : State) : (s.acknowledge).status = s.status := rfl
@[simp] theorem State.acknowledge_store (s : State) : (s.acknowledge).store = s.store := rfl
@[simp] theorem State.acknowledge_xfer (s : State) : (s.acknowledge).xfer = s.xfer := rfl
@[simp] theorem State.acknowledge_rdata (s : State) : (s.acknowledge).rdata = none := rfl
@[simp] theorem State.acknowledge_schedule (s : State) :
    (s.acknowledge).schedule = s.schedule := rfl

/-! ### irqRaise -/

@[simp] theorem State.irqRaise_cfg (s : State) (bits : Half) : (s.irqRaise bits).cfg = s.cfg := rfl
@[simp] theorem State.irqRaise_slots (s : State) (bits : Half) :
    (s.irqRaise bits).slots = s.slots := rfl
@[simp] theorem State.irqRaise_dma (s : State) (bits : Half) : (s.irqRaise bits).dma = s.dma := rfl
@[simp] theorem State.irqRaise_win (s : State) (bits : Half) : (s.irqRaise bits).win = s.win := rfl
@[simp] theorem State.irqRaise_irq (s : State) (bits : Half) :
    (s.irqRaise bits).irq = { s.irq with cause := s.irq.cause ||| bits } := rfl
@[simp] theorem State.irqRaise_status (s : State) (bits : Half) :
    (s.irqRaise bits).status = s.status := rfl
@[simp] theorem State.irqRaise_store (s : State) (bits : Half) :
    (s.irqRaise bits).store = s.store := rfl
@[simp] theorem State.irqRaise_xfer (s : State) (bits : Half) :
    (s.irqRaise bits).xfer = s.xfer := rfl
@[simp] theorem State.irqRaise_rdata (s : State) (bits : Half) :
    (s.irqRaise bits).rdata = s.rdata := rfl
@[simp] theorem State.irqRaise_schedule (s : State) (bits : Half) :
    (s.irqRaise bits).schedule = s.schedule := rfl

/-! ### irqAcknowledgeLow -/

@[simp] theorem State.irqAcknowledgeLow_cfg (s : State) (b : Byte) :
    (s.irqAcknowledgeLow b).cfg = s.cfg := rfl
@[simp] theorem State.irqAcknowledgeLow_slots (s : State) (b : Byte) :
    (s.irqAcknowledgeLow b).slots = s.slots := rfl
@[simp] theorem State.irqAcknowledgeLow_dma (s : State) (b : Byte) :
    (s.irqAcknowledgeLow b).dma = s.dma := rfl
@[simp] theorem State.irqAcknowledgeLow_win (s : State) (b : Byte) :
    (s.irqAcknowledgeLow b).win = s.win := rfl
@[simp] theorem State.irqAcknowledgeLow_irq (s : State) (b : Byte) :
    (s.irqAcknowledgeLow b).irq =
      { s.irq with cause := withLowByte s.irq.cause (lowByte s.irq.cause &&& ~~~b) } := rfl
@[simp] theorem State.irqAcknowledgeLow_status (s : State) (b : Byte) :
    (s.irqAcknowledgeLow b).status = s.status := rfl
@[simp] theorem State.irqAcknowledgeLow_store (s : State) (b : Byte) :
    (s.irqAcknowledgeLow b).store = s.store := rfl
@[simp] theorem State.irqAcknowledgeLow_xfer (s : State) (b : Byte) :
    (s.irqAcknowledgeLow b).xfer = s.xfer := rfl
@[simp] theorem State.irqAcknowledgeLow_rdata (s : State) (b : Byte) :
    (s.irqAcknowledgeLow b).rdata = s.rdata := rfl
@[simp] theorem State.irqAcknowledgeLow_schedule (s : State) (b : Byte) :
    (s.irqAcknowledgeLow b).schedule = s.schedule := rfl

/-! ### irqAcknowledgeHigh -/

@[simp] theorem State.irqAcknowledgeHigh_cfg (s : State) (b : Byte) :
    (s.irqAcknowledgeHigh b).cfg = s.cfg := rfl
@[simp] theorem State.irqAcknowledgeHigh_slots (s : State) (b : Byte) :
    (s.irqAcknowledgeHigh b).slots = s.slots := rfl
@[simp] theorem State.irqAcknowledgeHigh_dma (s : State) (b : Byte) :
    (s.irqAcknowledgeHigh b).dma = s.dma := rfl
@[simp] theorem State.irqAcknowledgeHigh_win (s : State) (b : Byte) :
    (s.irqAcknowledgeHigh b).win = s.win := rfl
@[simp] theorem State.irqAcknowledgeHigh_irq (s : State) (b : Byte) :
    (s.irqAcknowledgeHigh b).irq =
      { s.irq with cause := withHighByte s.irq.cause (highByte s.irq.cause &&& ~~~b) } := rfl
@[simp] theorem State.irqAcknowledgeHigh_status (s : State) (b : Byte) :
    (s.irqAcknowledgeHigh b).status = s.status := rfl
@[simp] theorem State.irqAcknowledgeHigh_store (s : State) (b : Byte) :
    (s.irqAcknowledgeHigh b).store = s.store := rfl
@[simp] theorem State.irqAcknowledgeHigh_xfer (s : State) (b : Byte) :
    (s.irqAcknowledgeHigh b).xfer = s.xfer := rfl
@[simp] theorem State.irqAcknowledgeHigh_rdata (s : State) (b : Byte) :
    (s.irqAcknowledgeHigh b).rdata = s.rdata := rfl
@[simp] theorem State.irqAcknowledgeHigh_schedule (s : State) (b : Byte) :
    (s.irqAcknowledgeHigh b).schedule = s.schedule := rfl

/-! ### irqClearAll -/

@[simp] theorem State.irqClearAll_cfg (s : State) : (s.irqClearAll).cfg = s.cfg := rfl
@[simp] theorem State.irqClearAll_slots (s : State) : (s.irqClearAll).slots = s.slots := rfl
@[simp] theorem State.irqClearAll_dma (s : State) : (s.irqClearAll).dma = s.dma := rfl
@[simp] theorem State.irqClearAll_win (s : State) : (s.irqClearAll).win = s.win := rfl
@[simp] theorem State.irqClearAll_irq (s : State) :
    (s.irqClearAll).irq = { s.irq with cause := 0x0000#16 } := rfl
@[simp] theorem State.irqClearAll_status (s : State) : (s.irqClearAll).status = s.status := rfl
@[simp] theorem State.irqClearAll_store (s : State) : (s.irqClearAll).store = s.store := rfl
@[simp] theorem State.irqClearAll_xfer (s : State) : (s.irqClearAll).xfer = s.xfer := rfl
@[simp] theorem State.irqClearAll_rdata (s : State) : (s.irqClearAll).rdata = s.rdata := rfl
@[simp] theorem State.irqClearAll_schedule (s : State) :
    (s.irqClearAll).schedule = s.schedule := rfl

/-! ### irqSetMask -/

@[simp] theorem State.irqSetMask_cfg (s : State) (v : Half) : (s.irqSetMask v).cfg = s.cfg := rfl
@[simp] theorem State.irqSetMask_slots (s : State) (v : Half) :
    (s.irqSetMask v).slots = s.slots := rfl
@[simp] theorem State.irqSetMask_dma (s : State) (v : Half) : (s.irqSetMask v).dma = s.dma := rfl
@[simp] theorem State.irqSetMask_win (s : State) (v : Half) : (s.irqSetMask v).win = s.win := rfl
@[simp] theorem State.irqSetMask_irq (s : State) (v : Half) :
    (s.irqSetMask v).irq = { s.irq with mask := v } := rfl
@[simp] theorem State.irqSetMask_status (s : State) (v : Half) :
    (s.irqSetMask v).status = s.status := rfl
@[simp] theorem State.irqSetMask_store (s : State) (v : Half) :
    (s.irqSetMask v).store = s.store := rfl
@[simp] theorem State.irqSetMask_xfer (s : State) (v : Half) : (s.irqSetMask v).xfer = s.xfer := rfl
@[simp] theorem State.irqSetMask_rdata (s : State) (v : Half) :
    (s.irqSetMask v).rdata = s.rdata := rfl
@[simp] theorem State.irqSetMask_schedule (s : State) (v : Half) :
    (s.irqSetMask v).schedule = s.schedule := rfl

/-! ### irqSetGlobalEnable -/

@[simp] theorem State.irqSetGlobalEnable_cfg (s : State) (v : Bool) :
    (s.irqSetGlobalEnable v).cfg = s.cfg := rfl
@[simp] theorem State.irqSetGlobalEnable_slots (s : State) (v : Bool) :
    (s.irqSetGlobalEnable v).slots = s.slots := rfl
@[simp] theorem State.irqSetGlobalEnable_dma (s : State) (v : Bool) :
    (s.irqSetGlobalEnable v).dma = s.dma := rfl
@[simp] theorem State.irqSetGlobalEnable_win (s : State) (v : Bool) :
    (s.irqSetGlobalEnable v).win = s.win := rfl
@[simp] theorem State.irqSetGlobalEnable_irq (s : State) (v : Bool) :
    (s.irqSetGlobalEnable v).irq = { s.irq with enable := v } := rfl
@[simp] theorem State.irqSetGlobalEnable_status (s : State) (v : Bool) :
    (s.irqSetGlobalEnable v).status = s.status := rfl
@[simp] theorem State.irqSetGlobalEnable_store (s : State) (v : Bool) :
    (s.irqSetGlobalEnable v).store = s.store := rfl
@[simp] theorem State.irqSetGlobalEnable_xfer (s : State) (v : Bool) :
    (s.irqSetGlobalEnable v).xfer = s.xfer := rfl
@[simp] theorem State.irqSetGlobalEnable_rdata (s : State) (v : Bool) :
    (s.irqSetGlobalEnable v).rdata = s.rdata := rfl
@[simp] theorem State.irqSetGlobalEnable_schedule (s : State) (v : Bool) :
    (s.irqSetGlobalEnable v).schedule = s.schedule := rfl

/-! ### raiseMemoryError -/

@[simp] theorem State.raiseMemoryError_cfg (s : State) : (s.raiseMemoryError).cfg = s.cfg := rfl
@[simp] theorem State.raiseMemoryError_slots (s : State) :
    (s.raiseMemoryError).slots = s.slots := rfl
@[simp] theorem State.raiseMemoryError_dma (s : State) : (s.raiseMemoryError).dma = s.dma := rfl
@[simp] theorem State.raiseMemoryError_win (s : State) : (s.raiseMemoryError).win = s.win := rfl
@[simp] theorem State.raiseMemoryError_irq (s : State) :
    (s.raiseMemoryError).irq = { s.irq with cause := s.irq.cause ||| causeMemoryError } := rfl
@[simp] theorem State.raiseMemoryError_status (s : State) :
    (s.raiseMemoryError).status = { s.status with memoryError := true } := rfl
@[simp] theorem State.raiseMemoryError_store (s : State) :
    (s.raiseMemoryError).store = s.store := rfl
@[simp] theorem State.raiseMemoryError_xfer (s : State) : (s.raiseMemoryError).xfer = s.xfer := rfl
@[simp] theorem State.raiseMemoryError_rdata (s : State) :
    (s.raiseMemoryError).rdata = s.rdata := rfl
@[simp] theorem State.raiseMemoryError_schedule (s : State) :
    (s.raiseMemoryError).schedule = s.schedule := rfl

/-! ### raiseDmaError -/

@[simp] theorem State.raiseDmaError_cfg (s : State) : (s.raiseDmaError).cfg = s.cfg := rfl
@[simp] theorem State.raiseDmaError_slots (s : State) : (s.raiseDmaError).slots = s.slots := rfl
@[simp] theorem State.raiseDmaError_dma (s : State) : (s.raiseDmaError).dma = s.dma := rfl
@[simp] theorem State.raiseDmaError_win (s : State) : (s.raiseDmaError).win = s.win := rfl
@[simp] theorem State.raiseDmaError_irq (s : State) :
    (s.raiseDmaError).irq = { s.irq with cause := s.irq.cause ||| causeDmaError } := rfl
@[simp] theorem State.raiseDmaError_status (s : State) :
    (s.raiseDmaError).status = { s.status with dmaError := true } := rfl
@[simp] theorem State.raiseDmaError_store (s : State) : (s.raiseDmaError).store = s.store := rfl
@[simp] theorem State.raiseDmaError_xfer (s : State) : (s.raiseDmaError).xfer = s.xfer := rfl
@[simp] theorem State.raiseDmaError_rdata (s : State) : (s.raiseDmaError).rdata = s.rdata := rfl
@[simp] theorem State.raiseDmaError_schedule (s : State) :
    (s.raiseDmaError).schedule = s.schedule := rfl

/-! ### memWrite -/

@[simp] theorem State.memWrite_cfg (s : State) (a : Nat) (v : Byte) :
    (s.memWrite a v).cfg = s.cfg := rfl
@[simp] theorem State.memWrite_slots (s : State) (a : Nat) (v : Byte) :
    (s.memWrite a v).slots = s.slots := rfl
@[simp] theorem State.memWrite_dma (s : State) (a : Nat) (v : Byte) :
    (s.memWrite a v).dma = s.dma := rfl
@[simp] theorem State.memWrite_win (s : State) (a : Nat) (v : Byte) :
    (s.memWrite a v).win = s.win := rfl
@[simp] theorem State.memWrite_irq (s : State) (a : Nat) (v : Byte) :
    (s.memWrite a v).irq = s.irq := rfl
@[simp] theorem State.memWrite_status (s : State) (a : Nat) (v : Byte) :
    (s.memWrite a v).status = s.status := rfl
@[simp] theorem State.memWrite_store (s : State) (a : Nat) (v : Byte) :
    (s.memWrite a v).store = s.store.write a v := rfl
@[simp] theorem State.memWrite_xfer (s : State) (a : Nat) (v : Byte) :
    (s.memWrite a v).xfer = s.xfer := rfl
@[simp] theorem State.memWrite_rdata (s : State) (a : Nat) (v : Byte) :
    (s.memWrite a v).rdata = s.rdata := rfl
@[simp] theorem State.memWrite_schedule (s : State) (a : Nat) (v : Byte) :
    (s.memWrite a v).schedule = s.schedule := rfl

/-! ### advance -/

@[simp] theorem State.advance_cfg (s : State) (k : SlotIx) : (s.advance k).cfg = s.cfg := rfl
@[simp] theorem State.advance_slots (s : State) (k : SlotIx) :
    (s.advance k).slots =
      s.slots.set k.toNat { s.slot k with cur := (s.slot k).nextCur s.cfg } k.isLt := rfl
@[simp] theorem State.advance_dma (s : State) (k : SlotIx) : (s.advance k).dma = s.dma := rfl
@[simp] theorem State.advance_win (s : State) (k : SlotIx) : (s.advance k).win = s.win := rfl
@[simp] theorem State.advance_irq (s : State) (k : SlotIx) : (s.advance k).irq = s.irq := rfl
@[simp] theorem State.advance_status (s : State) (k : SlotIx) :
    (s.advance k).status = s.status := rfl
@[simp] theorem State.advance_store (s : State) (k : SlotIx) : (s.advance k).store = s.store := rfl
@[simp] theorem State.advance_xfer (s : State) (k : SlotIx) : (s.advance k).xfer = s.xfer := rfl
@[simp] theorem State.advance_rdata (s : State) (k : SlotIx) : (s.advance k).rdata = s.rdata := rfl
@[simp] theorem State.advance_schedule (s : State) (k : SlotIx) :
    (s.advance k).schedule = s.schedule := rfl

/-! ### acceptCopy -/

@[simp] theorem State.acceptCopy_cfg (s : State) (src dst : Addr) (n : Half) :
    (s.acceptCopy src dst n).cfg = s.cfg := rfl
@[simp] theorem State.acceptCopy_slots (s : State) (src dst : Addr) (n : Half) :
    (s.acceptCopy src dst n).slots = s.slots := rfl
@[simp] theorem State.acceptCopy_dma (s : State) (src dst : Addr) (n : Half) :
    (s.acceptCopy src dst n).dma = s.dma := rfl
@[simp] theorem State.acceptCopy_win (s : State) (src dst : Addr) (n : Half) :
    (s.acceptCopy src dst n).win = s.win := rfl
@[simp] theorem State.acceptCopy_irq (s : State) (src dst : Addr) (n : Half) :
    (s.acceptCopy src dst n).irq = s.irq := rfl
@[simp] theorem State.acceptCopy_status (s : State) (src dst : Addr) (n : Half) :
    (s.acceptCopy src dst n).status = { s.status with dmaActive := true } := rfl
@[simp] theorem State.acceptCopy_store (s : State) (src dst : Addr) (n : Half) :
    (s.acceptCopy src dst n).store = s.store := rfl
@[simp] theorem State.acceptCopy_xfer (s : State) (src dst : Addr) (n : Half) :
    (s.acceptCopy src dst n).xfer =
      some { src := src, dst := dst, count := n, todo := List.range n.toNat } := rfl
@[simp] theorem State.acceptCopy_rdata (s : State) (src dst : Addr) (n : Half) :
    (s.acceptCopy src dst n).rdata = s.rdata := rfl
@[simp] theorem State.acceptCopy_schedule (s : State) (src dst : Addr) (n : Half) :
    (s.acceptCopy src dst n).schedule = s.schedule := rfl

/-! ### moveByte -/

@[simp] theorem State.moveByte_cfg (s : State) (x : Xfer) (i : Nat) :
    (s.moveByte x i).cfg = s.cfg := rfl
@[simp] theorem State.moveByte_slots (s : State) (x : Xfer) (i : Nat) :
    (s.moveByte x i).slots = s.slots := rfl
@[simp] theorem State.moveByte_dma (s : State) (x : Xfer) (i : Nat) :
    (s.moveByte x i).dma = s.dma := rfl
@[simp] theorem State.moveByte_win (s : State) (x : Xfer) (i : Nat) :
    (s.moveByte x i).win = s.win := rfl
@[simp] theorem State.moveByte_irq (s : State) (x : Xfer) (i : Nat) :
    (s.moveByte x i).irq = s.irq := rfl
@[simp] theorem State.moveByte_status (s : State) (x : Xfer) (i : Nat) :
    (s.moveByte x i).status = s.status := rfl
@[simp] theorem State.moveByte_store (s : State) (x : Xfer) (i : Nat) :
    (s.moveByte x i).store = s.store.write (x.dst.toNat + i) (s.memRead (x.src.toNat + i)) := rfl
@[simp] theorem State.moveByte_xfer (s : State) (x : Xfer) (i : Nat) :
    (s.moveByte x i).xfer = some { x with todo := x.todo.erase i } := rfl
@[simp] theorem State.moveByte_rdata (s : State) (x : Xfer) (i : Nat) :
    (s.moveByte x i).rdata = s.rdata := rfl
@[simp] theorem State.moveByte_schedule (s : State) (x : Xfer) (i : Nat) :
    (s.moveByte x i).schedule = s.schedule := rfl

/-! ### completeTransfer -/

@[simp] theorem State.completeTransfer_cfg (s : State) : (s.completeTransfer).cfg = s.cfg := rfl
@[simp] theorem State.completeTransfer_slots (s : State) :
    (s.completeTransfer).slots = s.slots := rfl
@[simp] theorem State.completeTransfer_dma (s : State) : (s.completeTransfer).dma = s.dma := rfl
@[simp] theorem State.completeTransfer_win (s : State) : (s.completeTransfer).win = s.win := rfl
@[simp] theorem State.completeTransfer_irq (s : State) :
    (s.completeTransfer).irq = { s.irq with cause := s.irq.cause ||| causeDmaComplete } := rfl
@[simp] theorem State.completeTransfer_status (s : State) :
    (s.completeTransfer).status = { s.status with dmaActive := false } := rfl
@[simp] theorem State.completeTransfer_store (s : State) :
    (s.completeTransfer).store = s.store := rfl
@[simp] theorem State.completeTransfer_xfer (s : State) : (s.completeTransfer).xfer = none := rfl
@[simp] theorem State.completeTransfer_rdata (s : State) :
    (s.completeTransfer).rdata = s.rdata := rfl
@[simp] theorem State.completeTransfer_schedule (s : State) :
    (s.completeTransfer).schedule = s.schedule := rfl

/-! ### resetAllSlots -/

@[simp] theorem State.resetAllSlots_cfg (s : State) : (s.resetAllSlots).cfg = s.cfg := rfl
@[simp] theorem State.resetAllSlots_slots (s : State) :
    (s.resetAllSlots).slots = mapVector (fun sl => { sl with cur := sl.dflt }) s.slots := rfl
@[simp] theorem State.resetAllSlots_dma (s : State) : (s.resetAllSlots).dma = s.dma := rfl
@[simp] theorem State.resetAllSlots_win (s : State) : (s.resetAllSlots).win = s.win := rfl
@[simp] theorem State.resetAllSlots_irq (s : State) : (s.resetAllSlots).irq = s.irq := rfl
@[simp] theorem State.resetAllSlots_status (s : State) : (s.resetAllSlots).status = s.status := rfl
@[simp] theorem State.resetAllSlots_store (s : State) : (s.resetAllSlots).store = s.store := rfl
@[simp] theorem State.resetAllSlots_xfer (s : State) : (s.resetAllSlots).xfer = s.xfer := rfl
@[simp] theorem State.resetAllSlots_rdata (s : State) : (s.resetAllSlots).rdata = s.rdata := rfl
@[simp] theorem State.resetAllSlots_schedule (s : State) :
    (s.resetAllSlots).schedule = s.schedule := rfl

/-! ### engineInit -/

@[simp] theorem State.engineInit_cfg (s : State) : (s.engineInit).cfg = s.cfg := rfl
@[simp] theorem State.engineInit_slots (s : State) :
    (s.engineInit).slots = factorySlots s.cfg := rfl
@[simp] theorem State.engineInit_dma (s : State) : (s.engineInit).dma = initialDma := rfl
@[simp] theorem State.engineInit_win (s : State) : (s.engineInit).win = s.win := rfl
@[simp] theorem State.engineInit_irq (s : State) : (s.engineInit).irq = s.irq := rfl
@[simp] theorem State.engineInit_status (s : State) : (s.engineInit).status = initialStatus := rfl
@[simp] theorem State.engineInit_store (s : State) : (s.engineInit).store = initialStore := rfl
@[simp] theorem State.engineInit_xfer (s : State) : (s.engineInit).xfer = none := rfl
@[simp] theorem State.engineInit_rdata (s : State) : (s.engineInit).rdata = s.rdata := rfl
@[simp] theorem State.engineInit_schedule (s : State) : (s.engineInit).schedule = s.schedule := rfl

/-! ### hardReset -/

@[simp] theorem State.hardReset_cfg (s : State) : (s.hardReset).cfg = s.cfg := rfl
@[simp] theorem State.hardReset_slots (s : State) : (s.hardReset).slots = factorySlots s.cfg := rfl
@[simp] theorem State.hardReset_dma (s : State) : (s.hardReset).dma = initialDma := rfl
@[simp] theorem State.hardReset_win (s : State) :
    (s.hardReset).win = Vector.replicate 8 initialWindow := rfl
@[simp] theorem State.hardReset_irq (s : State) : (s.hardReset).irq = initialIrq := rfl
@[simp] theorem State.hardReset_status (s : State) : (s.hardReset).status = initialStatus := rfl
@[simp] theorem State.hardReset_store (s : State) : (s.hardReset).store = initialStore := rfl
@[simp] theorem State.hardReset_xfer (s : State) : (s.hardReset).xfer = none := rfl
@[simp] theorem State.hardReset_rdata (s : State) : (s.hardReset).rdata = s.rdata := rfl
@[simp] theorem State.hardReset_schedule (s : State) : (s.hardReset).schedule = s.schedule := rfl

/-! ### present -/

@[simp] theorem State.present_cfg (s : State) (T : BusWord) : (s.present T).cfg = s.cfg := rfl
@[simp] theorem State.present_slots (s : State) (T : BusWord) : (s.present T).slots = s.slots := rfl
@[simp] theorem State.present_dma (s : State) (T : BusWord) : (s.present T).dma = s.dma := rfl
@[simp] theorem State.present_win (s : State) (T : BusWord) : (s.present T).win = s.win := rfl
@[simp] theorem State.present_irq (s : State) (T : BusWord) : (s.present T).irq = s.irq := rfl
@[simp] theorem State.present_status (s : State) (T : BusWord) :
    (s.present T).status = s.status := rfl
@[simp] theorem State.present_store (s : State) (T : BusWord) : (s.present T).store = s.store := rfl
@[simp] theorem State.present_xfer (s : State) (T : BusWord) : (s.present T).xfer = s.xfer := rfl
@[simp] theorem State.present_rdata (s : State) (T : BusWord) : (s.present T).rdata = s.rdata := rfl
@[simp] theorem State.present_schedule (s : State) (T : BusWord) :
    (s.present T).schedule = .bus T :: s.schedule := rfl

/-! ### Slots, windows, bytes and the IRQ line of an updated state -/

@[simp] theorem getElem_mapVector {α β : Type} {n : Nat} (f : α → β) (v : Vector α n) (i : Nat)
    (h : i < n) : (mapVector f v)[i] = f v[i] := by
  simp [mapVector]

/-- The slot file of a state is read slot by slot. -/
theorem State.slot_eq (s : State) (k : SlotIx) : s.slot k = s.slots[k.toNat]'k.isLt := rfl

theorem State.slot_setSlot (s : State) (k j : SlotIx) (sl : Slot) :
    (s.setSlot k sl).slot j = if k = j then sl else s.slot j := by
  simp only [State.slot, State.setSlot_slots, Vector.getElem_set, BitVec.toNat_inj]

@[simp] theorem State.slot_setSlot_same (s : State) (k : SlotIx) (sl : Slot) :
    (s.setSlot k sl).slot k = sl := by
  simp [State.slot_setSlot]

theorem State.slot_setSlot_other (s : State) (k j : SlotIx) (sl : Slot) (h : k ≠ j) :
    (s.setSlot k sl).slot j = s.slot j := by
  simp [State.slot_setSlot, h]

@[simp] theorem State.slot_mapSlots (s : State) (f : Slot → Slot) (k : SlotIx) :
    (s.mapSlots f).slot k = f (s.slot k) := by
  simp [State.slot]

@[simp] theorem State.slot_resetAllSlots (s : State) (k : SlotIx) :
    s.resetAllSlots.slot k = { s.slot k with cur := (s.slot k).dflt } := by
  simp [State.resetAllSlots]

theorem State.slot_advance (s : State) (k j : SlotIx) :
    (s.advance k).slot j =
      if k = j then { s.slot k with cur := (s.slot k).nextCur s.cfg } else s.slot j := by
  simp [State.advance, State.slot_setSlot]

/-- A slot right after initialisation (rule R44). -/
theorem slot_factory (s : State) (h : s.slots = factorySlots s.cfg) (k : SlotIx) :
    s.slot k = Slot.factory (s.cfg.layout[k.toNat]'k.isLt) := by
  simp [State.slot, h, factorySlots]

@[simp] theorem State.slot_engineInit (s : State) (k : SlotIx) :
    s.engineInit.slot k = Slot.factory (s.cfg.layout[k.toNat]'k.isLt) :=
  slot_factory s.engineInit rfl k

@[simp] theorem State.slot_hardReset (s : State) (k : SlotIx) :
    s.hardReset.slot k = Slot.factory (s.cfg.layout[k.toNat]'k.isLt) :=
  slot_factory s.hardReset rfl k

theorem State.win_setWindow (s : State) (w : WindowNo) (x : Window) (j : Fin 8) :
    (s.setWindow w x).win[j] = if windowIx w = j then x else s.win[j] := by
  simp only [State.setWindow_win, Fin.getElem_fin, Vector.getElem_set, Fin.ext_iff]

@[simp] theorem State.window_setWindow_same (s : State) (w : WindowNo) (x : Window) :
    (s.setWindow w x).window w = x := by
  simp [State.window]

theorem windowIx_inj {v w : WindowNo} (h : windowIx v = windowIx w) : v = w :=
  BitVec.eq_of_toNat_eq (by simpa [windowIx] using h)

theorem State.window_setWindow_other (s : State) (v w : WindowNo) (x : Window) (h : v ≠ w) :
    (s.setWindow v x).window w = s.window w := by
  have : windowIx v ≠ windowIx w := fun e => h (windowIx_inj e)
  simp only [State.window, State.win_setWindow, if_neg this]

/-- The byte of a state's store at an address. -/
theorem State.memRead_eq (s : State) (a : Nat) : s.memRead a = s.store.read a := rfl

@[simp] theorem State.setSlot_window (s : State) (k : SlotIx) (sl : Slot) (j : WindowNo) :
    (s.setSlot k sl).window j = s.window j := rfl
@[simp] theorem State.setSlot_memRead (s : State) (k : SlotIx) (sl : Slot) (j : Nat) :
    (s.setSlot k sl).memRead j = s.memRead j := rfl
@[simp] theorem State.setSlot_irqLine (s : State) (k : SlotIx) (sl : Slot) :
    (s.setSlot k sl).irqLine = s.irqLine := rfl
@[simp] theorem State.mapSlots_window (s : State) (f : Slot → Slot) (j : WindowNo) :
    (s.mapSlots f).window j = s.window j := rfl
@[simp] theorem State.mapSlots_memRead (s : State) (f : Slot → Slot) (j : Nat) :
    (s.mapSlots f).memRead j = s.memRead j := rfl
@[simp] theorem State.mapSlots_irqLine (s : State) (f : Slot → Slot) :
    (s.mapSlots f).irqLine = s.irqLine := rfl
@[simp] theorem State.setWindow_slot (s : State) (w : WindowNo) (x : Window) (j : SlotIx) :
    (s.setWindow w x).slot j = s.slot j := rfl
@[simp] theorem State.setWindow_memRead (s : State) (w : WindowNo) (x : Window) (j : Nat) :
    (s.setWindow w x).memRead j = s.memRead j := rfl
@[simp] theorem State.setWindow_irqLine (s : State) (w : WindowNo) (x : Window) :
    (s.setWindow w x).irqLine = s.irqLine := rfl
@[simp] theorem State.reply_slot (s : State) (v : Byte) (j : SlotIx) :
    (s.reply v).slot j = s.slot j := rfl
@[simp] theorem State.reply_window (s : State) (v : Byte) (j : WindowNo) :
    (s.reply v).window j = s.window j := rfl
@[simp] theorem State.reply_memRead (s : State) (v : Byte) (j : Nat) :
    (s.reply v).memRead j = s.memRead j := rfl
@[simp] theorem State.reply_irqLine (s : State) (v : Byte) : (s.reply v).irqLine = s.irqLine := rfl
@[simp] theorem State.acknowledge_slot (s : State) (j : SlotIx) :
    (s.acknowledge).slot j = s.slot j := rfl
@[simp] theorem State.acknowledge_window (s : State) (j : WindowNo) :
    (s.acknowledge).window j = s.window j := rfl
@[simp] theorem State.acknowledge_memRead (s : State) (j : Nat) :
    (s.acknowledge).memRead j = s.memRead j := rfl
@[simp] theorem State.acknowledge_irqLine (s : State) : (s.acknowledge).irqLine = s.irqLine := rfl
@[simp] theorem State.irqRaise_slot (s : State) (bits : Half) (j : SlotIx) :
    (s.irqRaise bits).slot j = s.slot j := rfl
@[simp] theorem State.irqRaise_window (s : State) (bits : Half) (j : WindowNo) :
    (s.irqRaise bits).window j = s.window j := rfl
@[simp] theorem State.irqRaise_memRead (s : State) (bits : Half) (j : Nat) :
    (s.irqRaise bits).memRead j = s.memRead j := rfl
@[simp] theorem State.irqAcknowledgeLow_slot (s : State) (b : Byte) (j : SlotIx) :
    (s.irqAcknowledgeLow b).slot j = s.slot j := rfl
@[simp] theorem State.irqAcknowledgeLow_window (s : State) (b : Byte) (j : WindowNo) :
    (s.irqAcknowledgeLow b).window j = s.window j := rfl
@[simp] theorem State.irqAcknowledgeLow_memRead (s : State) (b : Byte) (j : Nat) :
    (s.irqAcknowledgeLow b).memRead j = s.memRead j := rfl
@[simp] theorem State.irqAcknowledgeHigh_slot (s : State) (b : Byte) (j : SlotIx) :
    (s.irqAcknowledgeHigh b).slot j = s.slot j := rfl
@[simp] theorem State.irqAcknowledgeHigh_window (s : State) (b : Byte) (j : WindowNo) :
    (s.irqAcknowledgeHigh b).window j = s.window j := rfl
@[simp] theorem State.irqAcknowledgeHigh_memRead (s : State) (b : Byte) (j : Nat) :
    (s.irqAcknowledgeHigh b).memRead j = s.memRead j := rfl
@[simp] theorem State.irqClearAll_slot (s : State) (j : SlotIx) :
    (s.irqClearAll).slot j = s.slot j := rfl
@[simp] theorem State.irqClearAll_window (s : State) (j : WindowNo) :
    (s.irqClearAll).window j = s.window j := rfl
@[simp] theorem State.irqClearAll_memRead (s : State) (j : Nat) :
    (s.irqClearAll).memRead j = s.memRead j := rfl
@[simp] theorem State.irqSetMask_slot (s : State) (v : Half) (j : SlotIx) :
    (s.irqSetMask v).slot j = s.slot j := rfl
@[simp] theorem State.irqSetMask_window (s : State) (v : Half) (j : WindowNo) :
    (s.irqSetMask v).window j = s.window j := rfl
@[simp] theorem State.irqSetMask_memRead (s : State) (v : Half) (j : Nat) :
    (s.irqSetMask v).memRead j = s.memRead j := rfl
@[simp] theorem State.irqSetGlobalEnable_slot (s : State) (v : Bool) (j : SlotIx) :
    (s.irqSetGlobalEnable v).slot j = s.slot j := rfl
@[simp] theorem State.irqSetGlobalEnable_window (s : State) (v : Bool) (j : WindowNo) :
    (s.irqSetGlobalEnable v).window j = s.window j := rfl
@[simp] theorem State.irqSetGlobalEnable_memRead (s : State) (v : Bool) (j : Nat) :
    (s.irqSetGlobalEnable v).memRead j = s.memRead j := rfl
@[simp] theorem State.raiseMemoryError_slot (s : State) (j : SlotIx) :
    (s.raiseMemoryError).slot j = s.slot j := rfl
@[simp] theorem State.raiseMemoryError_window (s : State) (j : WindowNo) :
    (s.raiseMemoryError).window j = s.window j := rfl
@[simp] theorem State.raiseMemoryError_memRead (s : State) (j : Nat) :
    (s.raiseMemoryError).memRead j = s.memRead j := rfl
@[simp] theorem State.raiseDmaError_slot (s : State) (j : SlotIx) :
    (s.raiseDmaError).slot j = s.slot j := rfl
@[simp] theorem State.raiseDmaError_window (s : State) (j : WindowNo) :
    (s.raiseDmaError).window j = s.window j := rfl
@[simp] theorem State.raiseDmaError_memRead (s : State) (j : Nat) :
    (s.raiseDmaError).memRead j = s.memRead j := rfl
@[simp] theorem State.memWrite_slot (s : State) (a : Nat) (v : Byte) (j : SlotIx) :
    (s.memWrite a v).slot j = s.slot j := rfl
@[simp] theorem State.memWrite_window (s : State) (a : Nat) (v : Byte) (j : WindowNo) :
    (s.memWrite a v).window j = s.window j := rfl
@[simp] theorem State.memWrite_irqLine (s : State) (a : Nat) (v : Byte) :
    (s.memWrite a v).irqLine = s.irqLine := rfl
@[simp] theorem State.advance_window (s : State) (k : SlotIx) (j : WindowNo) :
    (s.advance k).window j = s.window j := rfl
@[simp] theorem State.advance_memRead (s : State) (k : SlotIx) (j : Nat) :
    (s.advance k).memRead j = s.memRead j := rfl
@[simp] theorem State.advance_irqLine (s : State) (k : SlotIx) :
    (s.advance k).irqLine = s.irqLine := rfl
@[simp] theorem State.acceptCopy_slot (s : State) (src dst : Addr) (n : Half) (j : SlotIx) :
    (s.acceptCopy src dst n).slot j = s.slot j := rfl
@[simp] theorem State.acceptCopy_window (s : State) (src dst : Addr) (n : Half) (j : WindowNo) :
    (s.acceptCopy src dst n).window j = s.window j := rfl
@[simp] theorem State.acceptCopy_memRead (s : State) (src dst : Addr) (n : Half) (j : Nat) :
    (s.acceptCopy src dst n).memRead j = s.memRead j := rfl
@[simp] theorem State.acceptCopy_irqLine (s : State) (src dst : Addr) (n : Half) :
    (s.acceptCopy src dst n).irqLine = s.irqLine := rfl
@[simp] theorem State.moveByte_slot (s : State) (x : Xfer) (i : Nat) (j : SlotIx) :
    (s.moveByte x i).slot j = s.slot j := rfl
@[simp] theorem State.moveByte_window (s : State) (x : Xfer) (i : Nat) (j : WindowNo) :
    (s.moveByte x i).window j = s.window j := rfl
@[simp] theorem State.moveByte_irqLine (s : State) (x : Xfer) (i : Nat) :
    (s.moveByte x i).irqLine = s.irqLine := rfl
@[simp] theorem State.completeTransfer_slot (s : State) (j : SlotIx) :
    (s.completeTransfer).slot j = s.slot j := rfl
@[simp] theorem State.completeTransfer_window (s : State) (j : WindowNo) :
    (s.completeTransfer).window j = s.window j := rfl
@[simp] theorem State.completeTransfer_memRead (s : State) (j : Nat) :
    (s.completeTransfer).memRead j = s.memRead j := rfl
@[simp] theorem State.resetAllSlots_window (s : State) (j : WindowNo) :
    (s.resetAllSlots).window j = s.window j := rfl
@[simp] theorem State.resetAllSlots_memRead (s : State) (j : Nat) :
    (s.resetAllSlots).memRead j = s.memRead j := rfl
@[simp] theorem State.resetAllSlots_irqLine (s : State) :
    (s.resetAllSlots).irqLine = s.irqLine := rfl
@[simp] theorem State.engineInit_window (s : State) (j : WindowNo) :
    (s.engineInit).window j = s.window j := rfl
@[simp] theorem State.engineInit_irqLine (s : State) : (s.engineInit).irqLine = s.irqLine := rfl
@[simp] theorem State.present_slot (s : State) (T : BusWord) (j : SlotIx) :
    (s.present T).slot j = s.slot j := rfl
@[simp] theorem State.present_window (s : State) (T : BusWord) (j : WindowNo) :
    (s.present T).window j = s.window j := rfl
@[simp] theorem State.present_memRead (s : State) (T : BusWord) (j : Nat) :
    (s.present T).memRead j = s.memRead j := rfl
@[simp] theorem State.present_irqLine (s : State) (T : BusWord) :
    (s.present T).irqLine = s.irqLine := rfl

end Sys2Proof.Machine
end

