-- ==== Sys2Proof/Laws/Ops.lean ====
section
/-! SUPPORT. For each shared operation one lemma that says everything it can do; a proof cites it and
does not unfold the operation. -/

namespace Sys2Proof.Machine

/-! ### Bytes of a 16-bit register -/

@[simp] theorem lowByte_withLowByte (h : Half) (b : Byte) :
    lowByte (withLowByte h b) = b := by
  apply BitVec.eq_of_getLsbD_eq
  intro i hi
  simp only [lowByte, withLowByte, BitVec.getLsbD_extractLsb', BitVec.getLsbD_append]
  simp [hi]

@[simp] theorem highByte_withLowByte (h : Half) (b : Byte) :
    highByte (withLowByte h b) = highByte h := by
  apply BitVec.eq_of_getLsbD_eq
  intro i hi
  simp only [highByte, withLowByte, BitVec.getLsbD_extractLsb', BitVec.getLsbD_append]
  simp [hi]

@[simp] theorem lowByte_withHighByte (h : Half) (b : Byte) :
    lowByte (withHighByte h b) = lowByte h := by
  apply BitVec.eq_of_getLsbD_eq
  intro i hi
  simp only [lowByte, withHighByte, BitVec.getLsbD_extractLsb', BitVec.getLsbD_append]
  simp [hi]

@[simp] theorem highByte_withHighByte (h : Half) (b : Byte) :
    highByte (withHighByte h b) = b := by
  apply BitVec.eq_of_getLsbD_eq
  intro i hi
  simp only [highByte, withHighByte, BitVec.getLsbD_extractLsb', BitVec.getLsbD_append]
  simp [hi]

/-- A bit of `irq.cause` after `irq_acknowledge_low(b)`. -/
theorem getLsbD_acknowledgeLow (h : Half) (b : Byte) (n : Nat) :
    (withLowByte h (lowByte h &&& ~~~b)).getLsbD n =
      (h.getLsbD n && !(decide (n < 8) && b.getLsbD n)) := by
  simp only [withLowByte, lowByte, highByte, BitVec.getLsbD_extractLsb', BitVec.getLsbD_append]
  by_cases h8 : n < 8
  · simp [h8]
  · by_cases h16 : n < 16
    · have e : 8 + (n - 8) = n := by omega
      have : n - 8 < 8 := by omega
      simp [h8, e, this]
    · rw [BitVec.getLsbD_of_ge h n (by omega)]
      have : ¬ n - 8 < 8 := by omega
      simp [h8, this]

/-- A bit of `irq.cause` after `irq_acknowledge_high(b)`. -/
theorem getLsbD_acknowledgeHigh (h : Half) (b : Byte) (n : Nat) :
    (withHighByte h (highByte h &&& ~~~b)).getLsbD n =
      (h.getLsbD n && !(decide (8 ≤ n) && b.getLsbD (n - 8))) := by
  simp only [withHighByte, lowByte, highByte, BitVec.getLsbD_extractLsb', BitVec.getLsbD_append]
  by_cases h8 : n < 8
  · have : ¬ 8 ≤ n := by omega
    simp [h8, this]
  · by_cases h16 : n < 16
    · have e : 8 + (n - 8) = n := by omega
      have h3 : n - 8 < 8 := by omega
      have h4 : 8 ≤ n := by omega
      simp [h8, e, h3, h4]
    · rw [BitVec.getLsbD_of_ge h n (by omega)]
      have : ¬ n - 8 < 8 := by omega
      simp [h8, this]

/-! ### Bytes of a 24-bit register -/

@[simp] theorem addrLow_withAddrLow (a : Addr) (b : Byte) :
    addrLow (withAddrLow a b) = b := by
  apply BitVec.eq_of_getLsbD_eq
  intro i hi
  simp only [addrLow, withAddrLow, addrMid, addrHigh, BitVec.getLsbD_extractLsb', BitVec.getLsbD_append]
  simp [hi]

@[simp] theorem addrMid_withAddrLow (a : Addr) (b : Byte) :
    addrMid (withAddrLow a b) = addrMid a := by
  apply BitVec.eq_of_getLsbD_eq
  intro i hi
  simp only [addrMid, withAddrLow, addrHigh, BitVec.getLsbD_extractLsb', BitVec.getLsbD_append]
  simp [hi]

@[simp] theorem addrHigh_withAddrLow (a : Addr) (b : Byte) :
    addrHigh (withAddrLow a b) = addrHigh a := by
  apply BitVec.eq_of_getLsbD_eq
  intro i hi
  simp only [addrHigh, withAddrLow, addrMid, BitVec.getLsbD_extractLsb', BitVec.getLsbD_append]
  have h1 : ¬ 16 + i < 8 := by omega
  have h2 : 16 + i - 8 - 8 = i := by omega
  have h3 : ¬ 16 + i - 8 < 8 := by omega
  simp [hi, h1, h2, h3]

@[simp] theorem addrLow_withAddrMid (a : Addr) (b : Byte) :
    addrLow (withAddrMid a b) = addrLow a := by
  apply BitVec.eq_of_getLsbD_eq
  intro i hi
  simp only [addrLow, withAddrMid, addrHigh, BitVec.getLsbD_extractLsb', BitVec.getLsbD_append]
  simp [hi]

@[simp] theorem addrMid_withAddrMid (a : Addr) (b : Byte) :
    addrMid (withAddrMid a b) = b := by
  apply BitVec.eq_of_getLsbD_eq
  intro i hi
  simp only [addrMid, withAddrMid, addrLow, addrHigh, BitVec.getLsbD_extractLsb', BitVec.getLsbD_append]
  simp [hi]

@[simp] theorem addrHigh_withAddrMid (a : Addr) (b : Byte) :
    addrHigh (withAddrMid a b) = addrHigh a := by
  apply BitVec.eq_of_getLsbD_eq
  intro i hi
  simp only [addrHigh, withAddrMid, addrLow, BitVec.getLsbD_extractLsb', BitVec.getLsbD_append]
  have h1 : ¬ 16 + i < 8 := by omega
  have h2 : 16 + i - 8 - 8 = i := by omega
  have h3 : ¬ 16 + i - 8 < 8 := by omega
  simp [hi, h1, h2, h3]

@[simp] theorem addrLow_withAddrHigh (a : Addr) (b : Byte) :
    addrLow (withAddrHigh a b) = addrLow a := by
  apply BitVec.eq_of_getLsbD_eq
  intro i hi
  simp only [addrLow, withAddrHigh, addrMid, BitVec.getLsbD_extractLsb', BitVec.getLsbD_append]
  simp [hi]

@[simp] theorem addrMid_withAddrHigh (a : Addr) (b : Byte) :
    addrMid (withAddrHigh a b) = addrMid a := by
  apply BitVec.eq_of_getLsbD_eq
  intro i hi
  simp only [addrMid, withAddrHigh, addrLow, BitVec.getLsbD_extractLsb', BitVec.getLsbD_append]
  simp [hi]

@[simp] theorem addrHigh_withAddrHigh (a : Addr) (b : Byte) :
    addrHigh (withAddrHigh a b) = b := by
  apply BitVec.eq_of_getLsbD_eq
  intro i hi
  simp only [addrHigh, withAddrHigh, addrLow, addrMid, BitVec.getLsbD_extractLsb', BitVec.getLsbD_append]
  have h1 : ¬ 16 + i < 8 := by omega
  have h2 : 16 + i - 8 - 8 = i := by omega
  have h3 : ¬ 16 + i - 8 < 8 := by omega
  simp [hi, h1, h2, h3]

/-! ### Frames -/

/-- Two states with equal fields differ in no part. -/
theorem Part.same_of_fields {s t : State} (p : Part)
    (h : match p with
      | .slots => t.slots = s.slots
      | .dma => t.dma = s.dma
      | .win => t.win = s.win
      | .irq => t.irq = s.irq
      | .status => t.status = s.status
      | .store => t.store = s.store
      | .xfer => t.xfer = s.xfer) : p.Same s t := by
  cases p <;> simp_all [Part.Same, State.slot, State.memRead]

/-- What the parts of a frame come to. -/
theorem onlyChanges_iff (parts : List Part) (s t : State) :
    OnlyChanges parts s t ↔ t.cfg = s.cfg ∧ t.schedule = s.schedule ∧
      (.slots ∈ parts ∨ ∀ k, t.slot k = s.slot k) ∧ (.dma ∈ parts ∨ t.dma = s.dma) ∧
      (.win ∈ parts ∨ ∀ j : Fin 8, t.win[j] = s.win[j]) ∧ (.irq ∈ parts ∨ t.irq = s.irq) ∧
      (.status ∈ parts ∨ t.status = s.status) ∧
      (.store ∈ parts ∨ ∀ a, t.memRead a = s.memRead a) ∧ (.xfer ∈ parts ∨ t.xfer = s.xfer) := by
  constructor
  · rintro ⟨hc, hs, h⟩
    exact ⟨hc, hs, or_iff_not_imp_left.mpr (h .slots), or_iff_not_imp_left.mpr (h .dma),
      or_iff_not_imp_left.mpr (h .win), or_iff_not_imp_left.mpr (h .irq),
      or_iff_not_imp_left.mpr (h .status), or_iff_not_imp_left.mpr (h .store),
      or_iff_not_imp_left.mpr (h .xfer)⟩
  · rintro ⟨hc, hs, h1, h2, h3, h4, h5, h6, h7⟩
    refine ⟨hc, hs, fun p hp => ?_⟩
    cases p
    · exact h1.resolve_left hp
    · exact h2.resolve_left hp
    · exact h3.resolve_left hp
    · exact h4.resolve_left hp
    · exact h5.resolve_left hp
    · exact h6.resolve_left hp
    · exact h7.resolve_left hp

/-! ### Indexed access -/

/-- `advance(k)` replaces the `cur` of slot `k` alone. -/
theorem State.advance_eq (s : State) (k : SlotIx) :
    s.advance k = s.setSlot k { s.slot k with cur := (s.slot k).nextCur s.cfg } := rfl

/-- `ENGINE.READ(k)`: in bounds the byte and the advance, out of bounds the sentinel and
MemoryError (rule R131). -/
theorem State.engineRead_cases (s : State) (k : SlotIx) :
    ((s.slot k).cur.toNat < s.cfg.capacity ∧ s.engineRead k = s.advance k ∧
      s.engineReadByte k = s.memRead (s.slot k).cur.toNat) ∨
    (s.cfg.capacity ≤ (s.slot k).cur.toNat ∧ s.engineRead k = s.raiseMemoryError ∧
      s.engineReadByte k = s.cfg.oobReadSentinel) := by
  by_cases h : (s.slot k).cur.toNat < s.cfg.capacity
  · exact .inl ⟨h, by simp [State.engineRead, State.inBounds, h],
      by simp [State.engineReadByte, State.inBounds, h]⟩
  · exact .inr ⟨Nat.le_of_not_lt h, by simp [State.engineRead, State.inBounds, h],
      by simp [State.engineReadByte, State.inBounds, h]⟩

/-- `ENGINE.WRITE(k, b)`: in bounds the store and the advance, out of bounds MemoryError
(rule R132). -/
theorem State.engineWrite_cases (s : State) (k : SlotIx) (b : Byte) :
    ((s.slot k).cur.toNat < s.cfg.capacity ∧
      s.engineWrite k b = (s.memWrite (s.slot k).cur.toNat b).advance k) ∨
    (s.cfg.capacity ≤ (s.slot k).cur.toNat ∧ s.engineWrite k b = s.raiseMemoryError) := by
  by_cases h : (s.slot k).cur.toNat < s.cfg.capacity
  · exact .inl ⟨h, by simp [State.engineWrite, State.inBounds, h]⟩
  · exact .inr ⟨Nat.le_of_not_lt h, by simp [State.engineWrite, State.inBounds, h]⟩

/-- The byte at any address after a store. -/
theorem State.memRead_memWrite (s : State) (a b : Nat) (v : Byte) :
    (s.memWrite a v).memRead b = if a = b then v else s.memRead b := by
  simp [State.memRead, Memory.read_write]

/-! ### The block copy and the DMA agent -/

/-- `COPY_BLOCK()`: no bytes, out of bounds, already active, or accepted (rule R210). -/
theorem State.copyBlock_cases (s : State) :
    (s.dma.count = 0x0000#16 ∧ s.copyBlock = s) ∨
    (s.dma.count ≠ 0x0000#16 ∧
      (s.cfg.capacity < (s.slot s.dma.src).cur.toNat + s.dma.count.toNat ∨
        s.cfg.capacity < (s.slot s.dma.dst).cur.toNat + s.dma.count.toNat) ∧
      s.copyBlock = s.rejectCopyBounds) ∨
    (s.dma.count ≠ 0x0000#16 ∧
      (s.slot s.dma.src).cur.toNat + s.dma.count.toNat ≤ s.cfg.capacity ∧
      (s.slot s.dma.dst).cur.toNat + s.dma.count.toNat ≤ s.cfg.capacity ∧
      ((s.status.dmaActive = true ∧ s.copyBlock = s.raiseDmaError) ∨
        (s.status.dmaActive = false ∧
          s.copyBlock = s.acceptCopy (s.slot s.dma.src).cur (s.slot s.dma.dst).cur s.dma.count))) := by
  by_cases h0 : s.dma.count = 0x0000#16
  · exact .inl ⟨h0, by simp [State.copyBlock, h0]⟩
  · by_cases h1 : (s.slot s.dma.src).cur.toNat + s.dma.count.toNat ≤ s.cfg.capacity
    · by_cases h2 : (s.slot s.dma.dst).cur.toNat + s.dma.count.toNat ≤ s.cfg.capacity
      · refine .inr (.inr ⟨h0, h1, h2, ?_⟩)
        cases h3 : s.status.dmaActive
        · exact .inr ⟨rfl, by simp [State.copyBlock, State.copyInBounds, h0, h1, h2, h3]⟩
        · exact .inl ⟨rfl, by simp [State.copyBlock, State.copyInBounds, h0, h1, h2, h3]⟩
      · exact .inr (.inl ⟨h0, .inr (Nat.lt_of_not_le h2),
          by simp [State.copyBlock, State.copyInBounds, h0, h2]⟩)
    · exact .inr (.inl ⟨h0, .inl (Nat.lt_of_not_le h1),
        by simp [State.copyBlock, State.copyInBounds, h0, h1]⟩)

/-- The rejection of a copy out of bounds raises DmaError, and MemoryError where the parameter says
so (rule R212). -/
theorem State.rejectCopyBounds_cases (s : State) :
    (s.cfg.copyOobRaisesMemoryError = false ∧ s.rejectCopyBounds = s.raiseDmaError) ∨
    (s.cfg.copyOobRaisesMemoryError = true ∧
      s.rejectCopyBounds = s.raiseDmaError.raiseMemoryError) := by
  cases h : s.cfg.copyOobRaisesMemoryError
  · exact .inl ⟨rfl, by simp [State.rejectCopyBounds, h]⟩
  · exact .inr ⟨rfl, by simp [State.rejectCopyBounds, h]⟩

/-- If `DMA.MOVE i` answers a next state, a transfer was in flight with `i` to do, both addresses
were inside the store, and the byte was moved (rule R217). -/
theorem State.dmaMove_next {s t : State} {i : Nat} (h : s.dmaMove i = .next t) :
    ∃ x, s.xfer = some x ∧ i ∈ x.todo ∧ x.src.toNat + i < s.cfg.capacity ∧
      x.dst.toNat + i < s.cfg.capacity ∧ t = s.moveByte x i := by
  unfold State.dmaMove at h
  split at h
  · cases h
  · rename_i x hx
    split at h
    · rename_i hi
      split at h
      · rename_i hb
        cases h
        exact ⟨x, hx, hi, hb.1, hb.2, rfl⟩
      · cases h
    · cases h

/-- When `DMA.MOVE i` answers a next state. -/
theorem State.dmaMove_eq {s : State} {x : Xfer} {i : Nat} (hx : s.xfer = some x) (hi : i ∈ x.todo)
    (hs : x.src.toNat + i < s.cfg.capacity) (hd : x.dst.toNat + i < s.cfg.capacity) :
    s.dmaMove i = .next (s.moveByte x i) := by
  simp [State.dmaMove, hx, hi, hs, hd]

/-- The byte at any address after a byte move. -/
theorem State.memRead_moveByte (s : State) (x : Xfer) (i a : Nat) :
    (s.moveByte x i).memRead a =
      if x.dst.toNat + i = a then s.memRead (x.src.toNat + i) else s.memRead a := by
  simp [State.memRead, Memory.read_write]

/-- If `DMA.COMPLETE` answers a next state, every byte of a transfer had been moved and the transfer
was completed (rule R219). -/
theorem State.dmaComplete_next {s t : State} (h : s.dmaComplete = .next t) :
    ∃ x, s.xfer = some x ∧ x.todo = [] ∧ t = s.completeTransfer := by
  unfold State.dmaComplete at h
  split at h
  · cases h
  · rename_i x hx
    split at h
    · rename_i he
      cases h
      exact ⟨x, hx, he, rfl⟩
    · cases h

/-- When `DMA.COMPLETE` answers a next state. -/
theorem State.dmaComplete_eq {s : State} {x : Xfer} (hx : s.xfer = some x) (he : x.todo = []) :
    s.dmaComplete = .next s.completeTransfer := by
  simp [State.dmaComplete, hx, he]

/-! ### Configuration fields -/

/-- An access of a slot's field reads the byte or replaces the active slot. -/
theorem slotField_eq (get : Slot → Byte) (put : Slot → Byte → Slot) (w : WindowNo) (s : State) :
    slotField get put w .get s = .next (s.reply (get (s.activeSlot w))) ∧
    ∀ b, slotField get put w (.set b) s =
      .next (s.setSlot (s.activeIx w) (put (s.activeSlot w) b)).acknowledge :=
  ⟨rfl, fun _ => rfl⟩

/-- An access of a DMA field reads the byte or replaces the record. -/
theorem dmaField_eq (get : DmaConfig → Byte) (put : DmaConfig → Byte → DmaConfig) (s : State) :
    dmaField get put .get s = .next (s.reply (get s.dma)) ∧
    ∀ b, dmaField get put (.set b) s = .next { s with dma := put s.dma b }.acknowledge :=
  ⟨rfl, fun _ => rfl⟩

/-! ### Steps and runs -/

/-- A step takes the first event of the schedule. -/
theorem runNext_cons {s : State} {e : Event} {rest : List Event} (h : s.schedule = e :: rest) :
    step s = runEvent e { s with schedule := rest } := by
  simp [step, runNext, h]

/-- A step with an empty schedule changes nothing. -/
theorem runNext_nil {s : State} (h : s.schedule = []) : step s = .next s := by
  simp [step, runNext, h]

/-- One event of a run that answers a next state. -/
theorem runEvents_cons {s t : State} {e : Event} (es : List Event) (h : runEvent e s = .next t) :
    runEvents (e :: es) s = runEvents es t := by
  simp [runEvents, h]

/-- A run of two lists is a run of the first and then of the second. -/
theorem runEvents_append {s t : State} (es fs : List Event) (h : runEvents es s = .next t) :
    runEvents (es ++ fs) s = runEvents fs t := by
  induction es generalizing s with
  | nil =>
    cases h
    rfl
  | cons e es ih =>
    simp only [List.cons_append, runEvents] at h ⊢
    split at h
    · exact ih h
    · cases h
    · cases h

end Sys2Proof.Machine
end

