-- ==== Sys2Proof/Laws/PerInstr.lean ====
section
/-! SUPPORT. The family EncodedWordMatchesRow: an instruction as it is encoded matches the mask and the
pattern of its own row of spec/opcode_table.json (spec/30_encoding.md rule R113). -/

namespace Sys2Proof.Laws

/-- A row matches a word that was put together when it matches each of its three fields. -/
theorem matchesWord_busWord (r : TableRow 17) (mr : Bool) (ma md : Byte) (pr : Bool) (pa pd : Byte)
    (hm : r.mask = busWord mr ma md) (hp : r.pattern = busWord pr pa pd) (rw : Bool) (a d : Byte)
    (h1 : (rw && mr) = pr) (h2 : a &&& ma = pa) (h3 : d &&& md = pd) :
    r.matchesWord (busWord rw a d) = true := by
  subst h1 h2 h3
  simp only [TableRow.matchesWord, hm, hp, beq_iff_eq]
  apply BitVec.eq_of_getLsbD_eq
  intro i hi
  simp only [busWord, BitVec.getLsbD_and, BitVec.getLsbD_append]
  split
  · rfl
  · split
    · rfl
    · cases rw <;> cases mr <;> simp

/-- The register offset of a wired window's address, bits 5:4 masked out. -/
theorem windowAddr_offset : ∀ (w : WindowNo) (off : BitVec 4),
    windowAddr w off &&& 0xCF#8 = 0#4 ++ off := by decide

/-- Bits 7:6 of a wired window's address are 00. -/
theorem windowAddr_class : ∀ (w : WindowNo) (off : BitVec 4),
    windowAddr w off &&& 0xC0#8 = 0x00#8 := by decide

/-- Bits 7:6 of a reserved window's address are 01. -/
theorem reservedWindowAddr_class : ∀ low : BitVec 6,
    reservedWindowAddr low &&& 0xC0#8 = 0x40#8 := by decide

/-- Bit 7 of a shared address is 1. -/
theorem sharedAddr_class : ∀ sreg : BitVec 7, sharedAddr sreg &&& 0x80#8 = 0x80#8 := by decide

/-- The word of a well-formed BUS row, and the field id of a well-formed CFG row, match the row of the
instruction's number. -/
def EncodedWordMatchesRow.Statement (i : Instr) : Prop :=
  i.wf defaultCfgIds = true →
  match i.fieldId defaultCfgIds with
  | none => ∃ r ∈ busTable, r.order = i.rowNumber ∧ r.matchesWord i.word = true
  | some f => ∃ r ∈ cfgTable, r.order + 40 = i.rowNumber ∧ r.matchesWord f = true

theorem EncodedWordMatchesRow.rdIdxSelect (w : WindowNo) :
    EncodedWordMatchesRow.Statement (.rdIdxSelect w) :=
  fun _ => ⟨busTable[0], List.getElem_mem _, rfl,
    matchesWord_busWord _ true 0xCF#8 0x00#8 false 0x00#8 0x00#8 rfl rfl _ _ _ rfl (windowAddr_offset _ _) (by simp)⟩

theorem EncodedWordMatchesRow.wrIdxSelect (w : WindowNo) (b : Byte) :
    EncodedWordMatchesRow.Statement (.wrIdxSelect w b) :=
  fun _ => ⟨busTable[1], List.getElem_mem _, rfl,
    matchesWord_busWord _ true 0xCF#8 0x00#8 true 0x00#8 0x00#8 rfl rfl _ _ _ rfl (windowAddr_offset _ _) (by simp)⟩

theorem EncodedWordMatchesRow.rdDataPort (w : WindowNo) :
    EncodedWordMatchesRow.Statement (.rdDataPort w) :=
  fun _ => ⟨busTable[2], List.getElem_mem _, rfl,
    matchesWord_busWord _ true 0xCF#8 0x00#8 false 0x01#8 0x00#8 rfl rfl _ _ _ rfl (windowAddr_offset _ _) (by simp)⟩

theorem EncodedWordMatchesRow.wrDataPort (w : WindowNo) (b : Byte) :
    EncodedWordMatchesRow.Statement (.wrDataPort w b) :=
  fun _ => ⟨busTable[3], List.getElem_mem _, rfl,
    matchesWord_busWord _ true 0xCF#8 0x00#8 true 0x01#8 0x00#8 rfl rfl _ _ _ rfl (windowAddr_offset _ _) (by simp)⟩

theorem EncodedWordMatchesRow.rdCfgFieldSelect (w : WindowNo) :
    EncodedWordMatchesRow.Statement (.rdCfgFieldSelect w) :=
  fun _ => ⟨busTable[4], List.getElem_mem _, rfl,
    matchesWord_busWord _ true 0xCF#8 0x00#8 false 0x02#8 0x00#8 rfl rfl _ _ _ rfl (windowAddr_offset _ _) (by simp)⟩

theorem EncodedWordMatchesRow.wrCfgFieldSelect (w : WindowNo) (b : Byte) :
    EncodedWordMatchesRow.Statement (.wrCfgFieldSelect w b) :=
  fun _ => ⟨busTable[5], List.getElem_mem _, rfl,
    matchesWord_busWord _ true 0xCF#8 0x00#8 true 0x02#8 0x00#8 rfl rfl _ _ _ rfl (windowAddr_offset _ _) (by simp)⟩

theorem EncodedWordMatchesRow.rdCfgData (w : WindowNo) :
    EncodedWordMatchesRow.Statement (.rdCfgData w) :=
  fun _ => ⟨busTable[6], List.getElem_mem _, rfl,
    matchesWord_busWord _ true 0xCF#8 0x00#8 false 0x03#8 0x00#8 rfl rfl _ _ _ rfl (windowAddr_offset _ _) (by simp)⟩

theorem EncodedWordMatchesRow.wrCfgData (w : WindowNo) (b : Byte) :
    EncodedWordMatchesRow.Statement (.wrCfgData w b) :=
  fun _ => ⟨busTable[7], List.getElem_mem _, rfl,
    matchesWord_busWord _ true 0xCF#8 0x00#8 true 0x03#8 0x00#8 rfl rfl _ _ _ rfl (windowAddr_offset _ _) (by simp)⟩

theorem EncodedWordMatchesRow.rdCommand (w : WindowNo) :
    EncodedWordMatchesRow.Statement (.rdCommand w) :=
  fun _ => ⟨busTable[8], List.getElem_mem _, rfl,
    matchesWord_busWord _ true 0xCF#8 0x00#8 false 0x04#8 0x00#8 rfl rfl _ _ _ rfl (windowAddr_offset _ _) (by simp)⟩

theorem EncodedWordMatchesRow.wcmdNop (w : WindowNo) :
    EncodedWordMatchesRow.Statement (.wcmdNop w) :=
  fun _ => ⟨busTable[9], List.getElem_mem _, rfl,
    matchesWord_busWord _ true 0xCF#8 0xFF#8 true 0x04#8 0x00#8 rfl rfl _ _ _ rfl (windowAddr_offset _ _) rfl⟩

theorem EncodedWordMatchesRow.wcmdResetIndex (w : WindowNo) :
    EncodedWordMatchesRow.Statement (.wcmdResetIndex w) :=
  fun _ => ⟨busTable[10], List.getElem_mem _, rfl,
    matchesWord_busWord _ true 0xCF#8 0xFF#8 true 0x04#8 0x01#8 rfl rfl _ _ _ rfl (windowAddr_offset _ _) rfl⟩

theorem EncodedWordMatchesRow.wcmdSetDefaultToAddr (w : WindowNo) :
    EncodedWordMatchesRow.Statement (.wcmdSetDefaultToAddr w) :=
  fun _ => ⟨busTable[11], List.getElem_mem _, rfl,
    matchesWord_busWord _ true 0xCF#8 0xFF#8 true 0x04#8 0x02#8 rfl rfl _ _ _ rfl (windowAddr_offset _ _) rfl⟩

theorem EncodedWordMatchesRow.wcmdSetLimitToAddr (w : WindowNo) :
    EncodedWordMatchesRow.Statement (.wcmdSetLimitToAddr w) :=
  fun _ => ⟨busTable[12], List.getElem_mem _, rfl,
    matchesWord_busWord _ true 0xCF#8 0xFF#8 true 0x04#8 0x03#8 rfl rfl _ _ _ rfl (windowAddr_offset _ _) rfl⟩

theorem EncodedWordMatchesRow.wcmdUnknown (w : WindowNo) (c : Byte) :
    EncodedWordMatchesRow.Statement (.wcmdUnknown w c) :=
  fun _ => ⟨busTable[13], List.getElem_mem _, rfl,
    matchesWord_busWord _ true 0xCF#8 0x00#8 true 0x04#8 0x00#8 rfl rfl _ _ _ rfl (windowAddr_offset _ _) (by simp)⟩

theorem EncodedWordMatchesRow.rdWReserved (w : WindowNo) (off : BitVec 4) :
    EncodedWordMatchesRow.Statement (.rdWReserved w off) :=
  fun _ => ⟨busTable[14], List.getElem_mem _, rfl,
    matchesWord_busWord _ true 0xC0#8 0x00#8 false 0x00#8 0x00#8 rfl rfl _ _ _ rfl (windowAddr_class _ _) (by simp)⟩

theorem EncodedWordMatchesRow.wrWReserved (w : WindowNo) (off : BitVec 4) (b : Byte) :
    EncodedWordMatchesRow.Statement (.wrWReserved w off b) :=
  fun _ => ⟨busTable[15], List.getElem_mem _, rfl,
    matchesWord_busWord _ true 0xC0#8 0x00#8 true 0x00#8 0x00#8 rfl rfl _ _ _ rfl (windowAddr_class _ _) (by simp)⟩

theorem EncodedWordMatchesRow.rdWinReserved (low : BitVec 6) :
    EncodedWordMatchesRow.Statement (.rdWinReserved low) :=
  fun _ => ⟨busTable[16], List.getElem_mem _, rfl,
    matchesWord_busWord _ true 0xC0#8 0x00#8 false 0x40#8 0x00#8 rfl rfl _ _ _ rfl (reservedWindowAddr_class _) (by simp)⟩

theorem EncodedWordMatchesRow.wrWinReserved (low : BitVec 6) (b : Byte) :
    EncodedWordMatchesRow.Statement (.wrWinReserved low b) :=
  fun _ => ⟨busTable[17], List.getElem_mem _, rfl,
    matchesWord_busWord _ true 0xC0#8 0x00#8 true 0x40#8 0x00#8 rfl rfl _ _ _ rfl (reservedWindowAddr_class _) (by simp)⟩

theorem EncodedWordMatchesRow.rdDeviceStatus :
    EncodedWordMatchesRow.Statement .rdDeviceStatus :=
  fun _ => ⟨busTable[18], List.getElem_mem _, rfl,
    matchesWord_busWord _ true 0xFF#8 0x00#8 false 0xF0#8 0x00#8 rfl rfl _ _ _ rfl rfl (by simp)⟩

theorem EncodedWordMatchesRow.wrDeviceStatus (b : Byte) :
    EncodedWordMatchesRow.Statement (.wrDeviceStatus b) :=
  fun _ => ⟨busTable[19], List.getElem_mem _, rfl,
    matchesWord_busWord _ true 0xFF#8 0x00#8 true 0xF0#8 0x00#8 rfl rfl _ _ _ rfl rfl (by simp)⟩

theorem EncodedWordMatchesRow.rdIrqCauseLow :
    EncodedWordMatchesRow.Statement .rdIrqCauseLow :=
  fun _ => ⟨busTable[20], List.getElem_mem _, rfl,
    matchesWord_busWord _ true 0xFF#8 0x00#8 false 0xF1#8 0x00#8 rfl rfl _ _ _ rfl rfl (by simp)⟩

theorem EncodedWordMatchesRow.wrIrqCauseLow (b : Byte) :
    EncodedWordMatchesRow.Statement (.wrIrqCauseLow b) :=
  fun _ => ⟨busTable[21], List.getElem_mem _, rfl,
    matchesWord_busWord _ true 0xFF#8 0x00#8 true 0xF1#8 0x00#8 rfl rfl _ _ _ rfl rfl (by simp)⟩

theorem EncodedWordMatchesRow.rdIrqCauseHigh :
    EncodedWordMatchesRow.Statement .rdIrqCauseHigh :=
  fun _ => ⟨busTable[22], List.getElem_mem _, rfl,
    matchesWord_busWord _ true 0xFF#8 0x00#8 false 0xF2#8 0x00#8 rfl rfl _ _ _ rfl rfl (by simp)⟩

theorem EncodedWordMatchesRow.wrIrqCauseHigh (b : Byte) :
    EncodedWordMatchesRow.Statement (.wrIrqCauseHigh b) :=
  fun _ => ⟨busTable[23], List.getElem_mem _, rfl,
    matchesWord_busWord _ true 0xFF#8 0x00#8 true 0xF2#8 0x00#8 rfl rfl _ _ _ rfl rfl (by simp)⟩

theorem EncodedWordMatchesRow.rdIrqMaskLow :
    EncodedWordMatchesRow.Statement .rdIrqMaskLow :=
  fun _ => ⟨busTable[24], List.getElem_mem _, rfl,
    matchesWord_busWord _ true 0xFF#8 0x00#8 false 0xF3#8 0x00#8 rfl rfl _ _ _ rfl rfl (by simp)⟩

theorem EncodedWordMatchesRow.wrIrqMaskLow (b : Byte) :
    EncodedWordMatchesRow.Statement (.wrIrqMaskLow b) :=
  fun _ => ⟨busTable[25], List.getElem_mem _, rfl,
    matchesWord_busWord _ true 0xFF#8 0x00#8 true 0xF3#8 0x00#8 rfl rfl _ _ _ rfl rfl (by simp)⟩

theorem EncodedWordMatchesRow.rdIrqMaskHigh :
    EncodedWordMatchesRow.Statement .rdIrqMaskHigh :=
  fun _ => ⟨busTable[26], List.getElem_mem _, rfl,
    matchesWord_busWord _ true 0xFF#8 0x00#8 false 0xF4#8 0x00#8 rfl rfl _ _ _ rfl rfl (by simp)⟩

theorem EncodedWordMatchesRow.wrIrqMaskHigh (b : Byte) :
    EncodedWordMatchesRow.Statement (.wrIrqMaskHigh b) :=
  fun _ => ⟨busTable[27], List.getElem_mem _, rfl,
    matchesWord_busWord _ true 0xFF#8 0x00#8 true 0xF4#8 0x00#8 rfl rfl _ _ _ rfl rfl (by simp)⟩

theorem EncodedWordMatchesRow.rdIrqEnable :
    EncodedWordMatchesRow.Statement .rdIrqEnable :=
  fun _ => ⟨busTable[28], List.getElem_mem _, rfl,
    matchesWord_busWord _ true 0xFF#8 0x00#8 false 0xF5#8 0x00#8 rfl rfl _ _ _ rfl rfl (by simp)⟩

theorem EncodedWordMatchesRow.wrIrqEnable (b : Byte) :
    EncodedWordMatchesRow.Statement (.wrIrqEnable b) :=
  fun _ => ⟨busTable[29], List.getElem_mem _, rfl,
    matchesWord_busWord _ true 0xFF#8 0x00#8 true 0xF5#8 0x00#8 rfl rfl _ _ _ rfl rfl (by simp)⟩

theorem EncodedWordMatchesRow.rdSharedCommand :
    EncodedWordMatchesRow.Statement .rdSharedCommand :=
  fun _ => ⟨busTable[30], List.getElem_mem _, rfl,
    matchesWord_busWord _ true 0xFF#8 0x00#8 false 0xFF#8 0x00#8 rfl rfl _ _ _ rfl rfl (by simp)⟩

theorem EncodedWordMatchesRow.scmdNop :
    EncodedWordMatchesRow.Statement .scmdNop :=
  fun _ => ⟨busTable[31], List.getElem_mem _, rfl,
    matchesWord_busWord _ true 0xFF#8 0xFF#8 true 0xFF#8 0x00#8 rfl rfl _ _ _ rfl rfl rfl⟩

theorem EncodedWordMatchesRow.scmdResetAll :
    EncodedWordMatchesRow.Statement .scmdResetAll :=
  fun _ => ⟨busTable[32], List.getElem_mem _, rfl,
    matchesWord_busWord _ true 0xFF#8 0xFF#8 true 0xFF#8 0x01#8 rfl rfl _ _ _ rfl rfl rfl⟩

theorem EncodedWordMatchesRow.scmdFactoryReset :
    EncodedWordMatchesRow.Statement .scmdFactoryReset :=
  fun _ => ⟨busTable[33], List.getElem_mem _, rfl,
    matchesWord_busWord _ true 0xFF#8 0xFF#8 true 0xFF#8 0x02#8 rfl rfl _ _ _ rfl rfl rfl⟩

theorem EncodedWordMatchesRow.scmdClearIrq :
    EncodedWordMatchesRow.Statement .scmdClearIrq :=
  fun _ => ⟨busTable[34], List.getElem_mem _, rfl,
    matchesWord_busWord _ true 0xFF#8 0xFF#8 true 0xFF#8 0x03#8 rfl rfl _ _ _ rfl rfl rfl⟩

theorem EncodedWordMatchesRow.scmdCopyBlock :
    EncodedWordMatchesRow.Statement .scmdCopyBlock :=
  fun _ => ⟨busTable[35], List.getElem_mem _, rfl,
    matchesWord_busWord _ true 0xFF#8 0xFF#8 true 0xFF#8 0x04#8 rfl rfl _ _ _ rfl rfl rfl⟩

theorem EncodedWordMatchesRow.scmdSystemReset :
    EncodedWordMatchesRow.Statement .scmdSystemReset :=
  fun _ => ⟨busTable[36], List.getElem_mem _, rfl,
    matchesWord_busWord _ true 0xFF#8 0xFF#8 true 0xFF#8 0x05#8 rfl rfl _ _ _ rfl rfl rfl⟩

theorem EncodedWordMatchesRow.scmdUnknown (c : Byte) :
    EncodedWordMatchesRow.Statement (.scmdUnknown c) :=
  fun _ => ⟨busTable[37], List.getElem_mem _, rfl,
    matchesWord_busWord _ true 0xFF#8 0x00#8 true 0xFF#8 0x00#8 rfl rfl _ _ _ rfl rfl (by simp)⟩

theorem EncodedWordMatchesRow.rdSReserved (sreg : BitVec 7) :
    EncodedWordMatchesRow.Statement (.rdSReserved sreg) :=
  fun _ => ⟨busTable[38], List.getElem_mem _, rfl,
    matchesWord_busWord _ true 0x80#8 0x00#8 false 0x80#8 0x00#8 rfl rfl _ _ _ rfl (sharedAddr_class _) (by simp)⟩

theorem EncodedWordMatchesRow.wrSReserved (sreg : BitVec 7) (b : Byte) :
    EncodedWordMatchesRow.Statement (.wrSReserved sreg b) :=
  fun _ => ⟨busTable[39], List.getElem_mem _, rfl,
    matchesWord_busWord _ true 0x80#8 0x00#8 true 0x80#8 0x00#8 rfl rfl _ _ _ rfl (sharedAddr_class _) (by simp)⟩

theorem EncodedWordMatchesRow.cfgCurL (w : WindowNo) (a : CfgAccess) :
    EncodedWordMatchesRow.Statement (.cfgCurL w a) :=
  fun _ => ⟨cfgTable[0], List.getElem_mem _, rfl, rfl⟩

theorem EncodedWordMatchesRow.cfgCurM (w : WindowNo) (a : CfgAccess) :
    EncodedWordMatchesRow.Statement (.cfgCurM w a) :=
  fun _ => ⟨cfgTable[1], List.getElem_mem _, rfl, rfl⟩

theorem EncodedWordMatchesRow.cfgCurH (w : WindowNo) (a : CfgAccess) :
    EncodedWordMatchesRow.Statement (.cfgCurH w a) :=
  fun _ => ⟨cfgTable[2], List.getElem_mem _, rfl, rfl⟩

theorem EncodedWordMatchesRow.cfgDefL (w : WindowNo) (a : CfgAccess) :
    EncodedWordMatchesRow.Statement (.cfgDefL w a) :=
  fun _ => ⟨cfgTable[3], List.getElem_mem _, rfl, rfl⟩

theorem EncodedWordMatchesRow.cfgDefM (w : WindowNo) (a : CfgAccess) :
    EncodedWordMatchesRow.Statement (.cfgDefM w a) :=
  fun _ => ⟨cfgTable[4], List.getElem_mem _, rfl, rfl⟩

theorem EncodedWordMatchesRow.cfgDefH (w : WindowNo) (a : CfgAccess) :
    EncodedWordMatchesRow.Statement (.cfgDefH w a) :=
  fun _ => ⟨cfgTable[5], List.getElem_mem _, rfl, rfl⟩

theorem EncodedWordMatchesRow.cfgLimL (w : WindowNo) (a : CfgAccess) :
    EncodedWordMatchesRow.Statement (.cfgLimL w a) :=
  fun _ => ⟨cfgTable[6], List.getElem_mem _, rfl, rfl⟩

theorem EncodedWordMatchesRow.cfgLimM (w : WindowNo) (a : CfgAccess) :
    EncodedWordMatchesRow.Statement (.cfgLimM w a) :=
  fun _ => ⟨cfgTable[7], List.getElem_mem _, rfl, rfl⟩

theorem EncodedWordMatchesRow.cfgLimH (w : WindowNo) (a : CfgAccess) :
    EncodedWordMatchesRow.Statement (.cfgLimH w a) :=
  fun _ => ⟨cfgTable[8], List.getElem_mem _, rfl, rfl⟩

theorem EncodedWordMatchesRow.cfgStep (w : WindowNo) (a : CfgAccess) :
    EncodedWordMatchesRow.Statement (.cfgStep w a) :=
  fun _ => ⟨cfgTable[9], List.getElem_mem _, rfl, rfl⟩

theorem EncodedWordMatchesRow.cfgFlags (w : WindowNo) (a : CfgAccess) :
    EncodedWordMatchesRow.Statement (.cfgFlags w a) :=
  fun _ => ⟨cfgTable[10], List.getElem_mem _, rfl, rfl⟩

theorem EncodedWordMatchesRow.cfgDmaSrc (w : WindowNo) (a : CfgAccess) :
    EncodedWordMatchesRow.Statement (.cfgDmaSrc w a) :=
  fun _ => ⟨cfgTable[11], List.getElem_mem _, rfl, rfl⟩

theorem EncodedWordMatchesRow.cfgDmaDst (w : WindowNo) (a : CfgAccess) :
    EncodedWordMatchesRow.Statement (.cfgDmaDst w a) :=
  fun _ => ⟨cfgTable[12], List.getElem_mem _, rfl, rfl⟩

theorem EncodedWordMatchesRow.cfgDmaCountL (w : WindowNo) (a : CfgAccess) :
    EncodedWordMatchesRow.Statement (.cfgDmaCountL w a) :=
  fun _ => ⟨cfgTable[13], List.getElem_mem _, rfl, rfl⟩

theorem EncodedWordMatchesRow.cfgDmaCountH (w : WindowNo) (a : CfgAccess) :
    EncodedWordMatchesRow.Statement (.cfgDmaCountH w a) :=
  fun _ => ⟨cfgTable[14], List.getElem_mem _, rfl, rfl⟩

theorem EncodedWordMatchesRow.cfgUnknown (w : WindowNo) (a : CfgAccess) (f : Byte) :
    EncodedWordMatchesRow.Statement (.cfgUnknown w a f) :=
  fun _ => ⟨cfgTable[15], List.getElem_mem _, rfl, (by simp [cfgTable, TableRow.matchesWord])⟩

end Sys2Proof.Laws
end

