-- ==== Sys2Proof/Tests/Slice0.lean ====
section
/-! SUPPORT. The model's own tests: ill-formed terms that WellFormed refuses, the decoding of one word
per constructor written out from the encoding tables, one step per instruction with the expected
values of spec/95_test_vectors.md, and for every statement with hypotheses a state that meets them. -/

namespace Sys2Proof.Tests

open Sys2Proof.Machine

/-! ### Well-formedness: each check refuses an ill-formed term and accepts the boundary -/

theorem test_wf_wcmdUnknown :
    Instr.wf defaultCfgIds (.wcmdUnknown 0#2 0x03#8) = false ∧
    Instr.wf defaultCfgIds (.wcmdUnknown 0#2 0x04#8) = true := by decide

theorem test_wf_rdWReserved :
    Instr.wf defaultCfgIds (.rdWReserved 0#2 4#4) = false ∧ Instr.wf defaultCfgIds (.rdWReserved 0#2 5#4) = true := by
  decide

theorem test_wf_wrWReserved :
    Instr.wf defaultCfgIds (.wrWReserved 0#2 4#4 0x00#8) = false ∧
    Instr.wf defaultCfgIds (.wrWReserved 0#2 5#4 0x00#8) = true := by decide

theorem test_wf_scmdUnknown :
    Instr.wf defaultCfgIds (.scmdUnknown 0x05#8) = false ∧ Instr.wf defaultCfgIds (.scmdUnknown 0x06#8) = true := by
  decide

theorem test_wf_rdSReserved :
    [0x6F#7, 0x70#7, 0x75#7, 0x76#7, 0x7E#7, 0x7F#7].map (fun r => Instr.wf defaultCfgIds (.rdSReserved r)) =
      [true, false, false, true, true, false] := by decide

theorem test_wf_wrSReserved :
    [0x6F#7, 0x70#7, 0x75#7, 0x76#7, 0x7E#7, 0x7F#7].map (fun r => Instr.wf defaultCfgIds (.wrSReserved r 0x00#8)) =
      [true, false, false, true, true, false] := by decide

theorem test_wf_cfgUnknown :
    Instr.wf defaultCfgIds (.cfgUnknown 0#2 .get 0x0E#8) = false ∧
    Instr.wf defaultCfgIds (.cfgUnknown 0#2 .get 0x0F#8) = true := by decide

theorem test_wf_cfgIds :
    ¬ CfgIds.wf { defaultCfgIds with curM := 0x00#8 } ∧ CfgIds.wf defaultCfgIds := by decide

theorem test_wf_capacity :
    ¬ Config.numbersWf { testcfg with capacity := 0 } ∧ ¬ Config.numbersWf { testcfg with capacity := 2 ^ 24 + 1 } ∧
    Config.numbersWf { testcfg with capacity := 1 } ∧ Config.numbersWf { testcfg with capacity := 2 ^ 24 } := by
  decide

theorem test_wf_sentinel :
    ¬ Config.numbersWf { testcfg with oobReadSentinel := 0x01#8 } ∧
    Config.numbersWf { testcfg with oobReadSentinel := 0xFF#8 } := by decide

theorem test_wf_configIds :
    ¬ Config.numbersWf { testcfg with cfgIds := { defaultCfgIds with step := 0x0A#8 } } := by decide

theorem test_wf_flagBits :
    ¬ Config.numbersWf { testcfg with wrapBit := 0 } ∧ ¬ Config.numbersWf { testcfg with directionBit := 0 } ∧
    ¬ Config.numbersWf { testcfg with wrapBit := 1 } := by decide

theorem test_wf_statusDmaErrorBit :
    ¬ Config.numbersWf { testcfg with statusDmaErrorBit := 2 } ∧ Config.numbersWf { testcfg with statusDmaErrorBit := 5 } := by
  decide

theorem test_wf_layout_user :
    LayoutEntry.wf testcfg ⟨.user 16, 0x000100#24, 0x000110#24, 0x01#8, 0x01#8⟩ = false ∧
    LayoutEntry.wf testcfg ⟨.user 16, 0x000100#24, 0x000000#24, 0x01#8, 0x00#8⟩ = false ∧
    LayoutEntry.wf testcfg ⟨.user 16, 0x000100#24, 0x000000#24, 0x01#8, 0x05#8⟩ = false ∧
    LayoutEntry.wf testcfg ⟨.user 0, 0x000100#24, 0x000000#24, 0x01#8, 0x01#8⟩ = false ∧
    LayoutEntry.wf testcfg ⟨.user 16, 0x000100#24, 0x000000#24, 0x01#8, 0x03#8⟩ = true := by decide

theorem test_wf_layout_fixed :
    LayoutEntry.wf testcfg ⟨.fixed 16, 0x000100#24, 0x00010F#24, 0x01#8, 0x05#8⟩ = false ∧
    LayoutEntry.wf testcfg ⟨.fixed 16, 0x000100#24, 0x000110#24, 0x01#8, 0x01#8⟩ = false ∧
    LayoutEntry.wf testcfg ⟨.fixed 16, 0x000100#24, 0x000110#24, 0x01#8, 0x05#8⟩ = true := by
  decide

theorem test_wf_layout_unsized :
    LayoutEntry.wf testcfg ⟨.unsized 16, 0x000100#24, 0x000110#24, 0x01#8, 0x01#8⟩ = false ∧
    LayoutEntry.wf testcfg ⟨.unsized 16, 0x000100#24, 0x000000#24, 0x01#8, 0x01#8⟩ = true := by
  decide

theorem test_wf_layout_unassigned :
    LayoutEntry.wf testcfg ⟨.unassigned, 0x000100#24, 0x000000#24, 0x00#8, 0x00#8⟩ = false ∧
    LayoutEntry.wf testcfg ⟨.unassigned, 0x000000#24, 0x000001#24, 0x00#8, 0x00#8⟩ = false ∧
    LayoutEntry.wf testcfg ⟨.unassigned, 0x000000#24, 0x000000#24, 0x01#8, 0x00#8⟩ = false ∧
    LayoutEntry.wf testcfg ⟨.unassigned, 0x000000#24, 0x000000#24, 0x00#8, 0x01#8⟩ = false ∧
    LayoutEntry.wf testcfg ⟨.unassigned, 0x000000#24, 0x000000#24, 0x00#8, 0x00#8⟩ = true := by
  decide

theorem test_wf_layout_disjoint :
    LayoutEntry.disjoint ⟨.user 16, 0x000100#24, 0x000000#24, 0x01#8, 0x01#8⟩
      ⟨.user 16, 0x00010F#24, 0x000000#24, 0x01#8, 0x01#8⟩ = false ∧
    LayoutEntry.disjoint ⟨.user 16, 0x000110#24, 0x000000#24, 0x01#8, 0x01#8⟩
      ⟨.user 16, 0x000100#24, 0x000000#24, 0x01#8, 0x01#8⟩ = true := by decide

/-- A layout without user slots is refused. -/
theorem test_wf_layout_users :
    ¬ Config.layoutWf { testcfg with
      layout := Vector.replicate 256 ⟨.unassigned, 0x000000#24, 0x000000#24, 0x00#8, 0x00#8⟩ } := by
  intro h
  have h : (List.replicate 256 (⟨.unassigned, 0x000000#24, 0x000000#24, 0x00#8, 0x00#8⟩ :
      LayoutEntry)).countP LayoutEntry.isUser = 128 := h.2.1
  rw [List.countP_replicate] at h
  exact absurd h (by decide)

/-- TESTCFG has 128 user slots (rule R364). -/
theorem testcfg_users :
    ((List.range 256).map testLayoutEntry).countP LayoutEntry.isUser = 128 := by
  have user_iff : ∀ k, (LayoutEntry.isUser ∘ testLayoutEntry) k = decide (128 ≤ k) := by
    intro k
    by_cases h : k < 128 <;> simp [testLayoutEntry, LayoutEntry.isUser, h]
    omega
  rw [List.countP_map, funext user_iff,
    show List.range 256 = List.range 128 ++ (List.range 128).map (128 + ·)
      from List.range_add (n := 128) (m := 128),
    List.countP_append, List.countP_map, List.countP_eq_zero.2 (by simp),
    List.countP_eq_length.2 (by simp)]
  simp

/-- TESTCFG is admissible (rule R364). -/
theorem testcfg_wf : testcfg.wf := by
  refine ⟨by decide, Config.layoutWf_of_rows (f := testLayoutEntry) rfl ?_ ?_ ?_⟩
  · intro k hk
    have hw : testcfg.wrapBit = 2 := rfl
    have ha : testcfg.autoStepBit = 0 := rfl
    by_cases h : k < 128
    · have hl : (k * 0x100 + 0x100) % 2 ^ 24 = k * 0x100 % 2 ^ 24 + 0x100 := by omega
      simp only [LayoutEntry.wf, testLayoutEntry, h, if_true, hw, BitVec.toNat_ofNat, hl]
      simp
    · simp only [LayoutEntry.wf, testLayoutEntry, h, if_false, hw, ha]
      simp
  · exact testcfg_users
  · intro i j hij hj
    simp only [LayoutEntry.disjoint_iff, LayoutEntry.regionEnd, testLayoutEntry, BitVec.toNat_ofNat]
    have hi : (if i < 128 then SlotRole.fixed 0x100 else .user 0x100).size = 0x100 := by
      split <;> rfl
    rw [hi]
    omega

theorem test_memory_wf :
    ¬ Memory.wf [(1, 0x01#8), (0, 0x01#8)] ∧ ¬ Memory.wf [(0, 0x00#8)] ∧ Memory.wf [(0, 0x01#8), (1, 0x01#8)] := by
  decide

/-! ### Decoding: the word of each row written out from the tables of spec/30_encoding.md, as
`rw`, `addr` and `data` of rule R100; the words of spec/95_test_vectors.md section 2.6 among them -/

theorem test_decode_rdIdxSelect :
    decodeTableWord 24 0b00010000000000000 = some (.rdIdxSelect 2#2) := by decide

theorem test_decode_wrIdxSelect :
    decodeTableWord 24 0b10011000010000011 = some (.wrIdxSelect 3#2 0x83#8) := by decide

theorem test_decode_rdDataPort :
    decodeTableWord 24 0b00001000111111111 = some (.rdDataPort 1#2) := by decide

theorem test_decode_wrDataPort :
    decodeTableWord 24 0b10000000101000001 = some (.wrDataPort 0#2 0x41#8) := by decide

theorem test_decode_rdCfgFieldSelect :
    decodeTableWord 24 0b00001001000000000 = some (.rdCfgFieldSelect 1#2) := by decide

theorem test_decode_wrCfgFieldSelect :
    decodeTableWord 24 0b10000001000001111 = some (.wrCfgFieldSelect 0#2 0x0F#8) := by decide

theorem test_decode_rdCfgData :
    decodeTableWord 24 0b00011001100000000 = some (.rdCfgData 3#2) := by decide

theorem test_decode_wrCfgData :
    decodeTableWord 24 0b10000001101110111 = some (.wrCfgData 0#2 0x77#8) := by decide

theorem test_decode_rdCommand :
    decodeTableWord 24 0b00011010000000000 = some (.rdCommand 3#2) := by decide

theorem test_decode_wcmdNop :
    decodeTableWord 24 0b10000010000000000 = some (.wcmdNop 0#2) := by decide

theorem test_decode_wcmdResetIndex :
    decodeTableWord 24 0b10011010000000001 = some (.wcmdResetIndex 3#2) := by decide

theorem test_decode_wcmdSetDefaultToAddr :
    decodeTableWord 24 0b10010010000000010 = some (.wcmdSetDefaultToAddr 2#2) := by decide

theorem test_decode_wcmdSetLimitToAddr :
    decodeTableWord 24 0b10001010000000011 = some (.wcmdSetLimitToAddr 1#2) := by decide

theorem test_decode_wcmdUnknown :
    decodeTableWord 24 0b10011010000000100 = some (.wcmdUnknown 3#2 0x04#8) := by decide

theorem test_decode_rdWReserved :
    decodeTableWord 24 0b00011111100000000 = some (.rdWReserved 3#2 15#4) := by decide

theorem test_decode_wrWReserved :
    decodeTableWord 24 0b10000010100000000 = some (.wrWReserved 0#2 5#4 0x00#8) := by decide

theorem test_decode_rdWinReserved :
    decodeTableWord 24 0b00111111100000000 = some (.rdWinReserved 0x3F#6) := by decide

theorem test_decode_wrWinReserved :
    decodeTableWord 24 0b10100000000000000 = some (.wrWinReserved 0x00#6 0x00#8) := by decide

theorem test_decode_rdDeviceStatus :
    decodeTableWord 24 0b01111000000000000 = some .rdDeviceStatus := by decide

theorem test_decode_wrDeviceStatus :
    decodeTableWord 24 0b11111000011111111 = some (.wrDeviceStatus 0xFF#8) := by decide

theorem test_decode_rdIrqCauseLow :
    decodeTableWord 24 0b01111000100000000 = some .rdIrqCauseLow := by decide

theorem test_decode_wrIrqCauseLow :
    decodeTableWord 24 0b11111000100000100 = some (.wrIrqCauseLow 0x04#8) := by decide

theorem test_decode_rdIrqCauseHigh :
    decodeTableWord 24 0b01111001000000000 = some .rdIrqCauseHigh := by decide

theorem test_decode_wrIrqCauseHigh :
    decodeTableWord 24 0b11111001000000001 = some (.wrIrqCauseHigh 0x01#8) := by decide

theorem test_decode_rdIrqMaskLow :
    decodeTableWord 24 0b01111001100000000 = some .rdIrqMaskLow := by decide

theorem test_decode_wrIrqMaskLow :
    decodeTableWord 24 0b11111001100001111 = some (.wrIrqMaskLow 0x0F#8) := by decide

theorem test_decode_rdIrqMaskHigh :
    decodeTableWord 24 0b01111010000000000 = some .rdIrqMaskHigh := by decide

theorem test_decode_wrIrqMaskHigh :
    decodeTableWord 24 0b11111010000000000 = some (.wrIrqMaskHigh 0x00#8) := by decide

theorem test_decode_rdIrqEnable :
    decodeTableWord 24 0b01111010100000000 = some .rdIrqEnable := by decide

theorem test_decode_wrIrqEnable :
    decodeTableWord 24 0b11111010110000000 = some (.wrIrqEnable 0x80#8) := by decide

theorem test_decode_rdSharedCommand :
    decodeTableWord 24 0b01111111100000000 = some .rdSharedCommand := by decide

theorem test_decode_scmdNop :
    decodeTableWord 24 0b11111111100000000 = some .scmdNop := by decide

theorem test_decode_scmdResetAll :
    decodeTableWord 24 0b11111111100000001 = some .scmdResetAll := by decide

theorem test_decode_scmdFactoryReset :
    decodeTableWord 24 0b11111111100000010 = some .scmdFactoryReset := by decide

theorem test_decode_scmdClearIrq :
    decodeTableWord 24 0b11111111100000011 = some .scmdClearIrq := by decide

theorem test_decode_scmdCopyBlock :
    decodeTableWord 24 0b11111111100000100 = some .scmdCopyBlock := by decide

theorem test_decode_scmdSystemReset :
    decodeTableWord 24 0b11111111100000101 = some .scmdSystemReset := by decide

theorem test_decode_scmdUnknown :
    decodeTableWord 24 0b11111111100000110 = some (.scmdUnknown 0x06#8) := by decide

theorem test_decode_rdSReserved :
    decodeTableWord 24 0b01111111000000000 = some (.rdSReserved 0x7E#7) := by decide

theorem test_decode_wrSReserved :
    decodeTableWord 24 0b11111011000000000 = some (.wrSReserved 0x76#7 0x00#8) := by decide

theorem test_decode_cfgCurL :
    decodeTableWord 8 0b00000000 = some (.cfgCurL 0#2 .get) ∧
    decode defaultCfgIds [0x5A#8, 0x13#8, 0x01#8, 0b00000000#8] = .ok (.cfgCurL 1#2 (.set 0x5A#8)) := by
  decide

theorem test_decode_cfgCurM :
    decodeTableWord 8 0b00000001 = some (.cfgCurM 0#2 .get) ∧
    decode defaultCfgIds [0x5A#8, 0x13#8, 0x01#8, 0b00000001#8] = .ok (.cfgCurM 1#2 (.set 0x5A#8)) := by
  decide

theorem test_decode_cfgCurH :
    decodeTableWord 8 0b00000010 = some (.cfgCurH 0#2 .get) ∧
    decode defaultCfgIds [0x5A#8, 0x13#8, 0x01#8, 0b00000010#8] = .ok (.cfgCurH 1#2 (.set 0x5A#8)) := by
  decide

theorem test_decode_cfgDefL :
    decodeTableWord 8 0b00000011 = some (.cfgDefL 0#2 .get) ∧
    decode defaultCfgIds [0x5A#8, 0x13#8, 0x01#8, 0b00000011#8] = .ok (.cfgDefL 1#2 (.set 0x5A#8)) := by
  decide

theorem test_decode_cfgDefM :
    decodeTableWord 8 0b00000100 = some (.cfgDefM 0#2 .get) ∧
    decode defaultCfgIds [0x5A#8, 0x13#8, 0x01#8, 0b00000100#8] = .ok (.cfgDefM 1#2 (.set 0x5A#8)) := by
  decide

theorem test_decode_cfgDefH :
    decodeTableWord 8 0b00000101 = some (.cfgDefH 0#2 .get) ∧
    decode defaultCfgIds [0x5A#8, 0x13#8, 0x01#8, 0b00000101#8] = .ok (.cfgDefH 1#2 (.set 0x5A#8)) := by
  decide

theorem test_decode_cfgLimL :
    decodeTableWord 8 0b00000110 = some (.cfgLimL 0#2 .get) ∧
    decode defaultCfgIds [0x5A#8, 0x13#8, 0x01#8, 0b00000110#8] = .ok (.cfgLimL 1#2 (.set 0x5A#8)) := by
  decide

theorem test_decode_cfgLimM :
    decodeTableWord 8 0b00000111 = some (.cfgLimM 0#2 .get) ∧
    decode defaultCfgIds [0x5A#8, 0x13#8, 0x01#8, 0b00000111#8] = .ok (.cfgLimM 1#2 (.set 0x5A#8)) := by
  decide

theorem test_decode_cfgLimH :
    decodeTableWord 8 0b00001000 = some (.cfgLimH 0#2 .get) ∧
    decode defaultCfgIds [0x5A#8, 0x13#8, 0x01#8, 0b00001000#8] = .ok (.cfgLimH 1#2 (.set 0x5A#8)) := by
  decide

theorem test_decode_cfgStep :
    decodeTableWord 8 0b00001001 = some (.cfgStep 0#2 .get) ∧
    decode defaultCfgIds [0x5A#8, 0x13#8, 0x01#8, 0b00001001#8] = .ok (.cfgStep 1#2 (.set 0x5A#8)) := by
  decide

theorem test_decode_cfgFlags :
    decodeTableWord 8 0b00001010 = some (.cfgFlags 0#2 .get) ∧
    decode defaultCfgIds [0x5A#8, 0x13#8, 0x01#8, 0b00001010#8] = .ok (.cfgFlags 1#2 (.set 0x5A#8)) := by
  decide

theorem test_decode_cfgDmaSrc :
    decodeTableWord 8 0b00001011 = some (.cfgDmaSrc 0#2 .get) ∧
    decode defaultCfgIds [0x5A#8, 0x13#8, 0x01#8, 0b00001011#8] = .ok (.cfgDmaSrc 1#2 (.set 0x5A#8)) := by
  decide

theorem test_decode_cfgDmaDst :
    decodeTableWord 8 0b00001100 = some (.cfgDmaDst 0#2 .get) ∧
    decode defaultCfgIds [0x5A#8, 0x13#8, 0x01#8, 0b00001100#8] = .ok (.cfgDmaDst 1#2 (.set 0x5A#8)) := by
  decide

theorem test_decode_cfgDmaCountL :
    decodeTableWord 8 0b00001101 = some (.cfgDmaCountL 0#2 .get) ∧
    decode defaultCfgIds [0x5A#8, 0x13#8, 0x01#8, 0b00001101#8] = .ok (.cfgDmaCountL 1#2 (.set 0x5A#8)) := by
  decide

theorem test_decode_cfgDmaCountH :
    decodeTableWord 8 0b00001110 = some (.cfgDmaCountH 0#2 .get) ∧
    decode defaultCfgIds [0x5A#8, 0x13#8, 0x01#8, 0b00001110#8] = .ok (.cfgDmaCountH 1#2 (.set 0x5A#8)) := by
  decide

theorem test_decode_cfgUnknown :
    decodeTableWord 8 0b00001111 = some (.cfgUnknown 0#2 .get 0x0F#8) := by decide

theorem test_decode_rejects :
    decode defaultCfgIds [] = .error .wrongLength ∧
    decode defaultCfgIds [0x00#8, 0x00#8, 0x02#8] = .error .notATransactionWord ∧
    decode defaultCfgIds [0x00#8, 0x00#8, 0x00#8, 0x00#8] = .error .notACfgDataAccess := by decide

theorem test_encode :
    encode defaultCfgIds (.wrDataPort 0#2 0x41#8) = [0x41#8, 0x01#8, 0x01#8] ∧
    encode defaultCfgIds (.cfgFlags 3#2 (.set 0x07#8)) = [0x07#8, 0x33#8, 0x01#8, 0x0A#8] := by
  decide

/-! ### One step

The expected values are those of spec/95_test_vectors.md, by the id in each docstring. -/

/-- One step that takes the transaction `T`. -/
def stepOn (s : State) (T : BusWord) : Option State :=
  match step (s.present T) with
  | .next t => some t
  | _ => none

/-- The reset state with window A at a slot. -/
def onSlot (k : SlotIx) : State := State.reset.setWindow 0#2 { active := k, field := 0x00#8 }

/-- The reset state with window A at slot 5 and a configuration field selected. -/
def onField (f : Byte) : State := State.reset.setWindow 0#2 { active := 0x05#8, field := f }

/-- The start state of section 2.4. -/
def afterSixteen : State :=
  (onSlot 0x05#8).setSlot 0x05#8
    { cur := 0x000510#24, dflt := 0x000500#24, lim := 0x000600#24, step := 0x01#8, flags := 0x05#8 }

/-- The "dirty" start state of V5.a to V5.f. -/
def dirty : State :=
  { (State.reset.setSlot 0x05#8
      { cur := 0x000510#24, dflt := 0x000508#24, lim := 0x000600#24, step := 0x02#8
        flags := 0x01#8 }).setWindow 0#2 { active := 0x05#8, field := 0x09#8 } with
    dma := { src := 0x80#8, dst := 0x81#8, count := 0x000A#16 }
    store := [(0x500, 0x77#8)]
    status := { memoryError := true, dmaError := false, dmaActive := false, systemReady := true }
    irq := { cause := 0x0101#16, mask := 0x00FF#16, enable := false } }

/-- A copy of `n` bytes from slot 0x80 at `a` to slot 0x81 at `b`. -/
def copyState (n : Half) (a b : Addr) (active : Bool) : State :=
  { (State.reset.setSlot 0x80#8
      { cur := a, dflt := a, lim := 0x000000#24, step := 0x01#8, flags := 0x01#8 }).setSlot 0x81#8
      { cur := b, dflt := b, lim := 0x000000#24, step := 0x01#8, flags := 0x01#8 } with
    dma := { src := 0x80#8, dst := 0x81#8, count := n }
    status := { memoryError := false, dmaError := false, dmaActive := active, systemReady := true } }

/-- The interrupt state `c`, `m`, `e` in the reset state. -/
def withIrq (c m : Half) (e : Bool) : State :=
  { State.reset with irq := { cause := c, mask := m, enable := e } }

/-- A transfer of four bytes whose bytes 0 and 2 have been moved. -/
def inFlight : State :=
  { State.reset with
    dma := { src := 0x80#8, dst := 0x81#8, count := 0x0004#16 }
    store := [(0x8000, 0x10#8), (0x8003, 0x13#8), (0x8100, 0x10#8)]
    status := { memoryError := false, dmaError := true, dmaActive := true, systemReady := true }
    irq := { cause := 0x0008#16, mask := 0xFFFF#16, enable := true }
    xfer := some { src := 0x008000#24, dst := 0x008100#24, count := 0x0004#16, todo := [1, 3] } }

/-- That transfer with every byte moved. -/
def allMoved : State :=
  { inFlight with
    xfer := some { src := 0x008000#24, dst := 0x008100#24, count := 0x0004#16, todo := [] } }

/-- V7.1. -/
theorem test_rdIdxSelect :
    (stepOn (onSlot 0x80#8) 0x00000#17).map (fun t => (t.rdata, t.window 0#2)) = some (some 0x80#8, { active := 0x80#8, field := 0x00#8 }) := rfl

/-- V7.1. -/
theorem test_wrIdxSelect :
    (stepOn State.reset 0x11081#17).map (fun t => (t.window 1#2, t.window 0#2)) = some ({ active := 0x81#8, field := 0x00#8 }, { active := 0x00#8, field := 0x00#8 }) := rfl

/-- V2.1. -/
theorem test_rdDataPort :
    (stepOn { onSlot 0x05#8 with store := [(0x500, 0xAB#8)] } 0x00100#17).map (fun t => (t.rdata, (t.slot 0x05#8).cur)) = some (some 0xAB#8, 0x000501#24) := rfl

/-- V2.5. -/
theorem test_rdDataPort_out_of_bounds :
    (stepOn ((onSlot 0x80#8).setSlot 0x80#8 { (onSlot 0x80#8).slot 0x80#8 with cur := 0x010000#24 }) 0x00100#17).map (fun t => (t.rdata, t.status.memoryError, t.irq.cause, (t.slot 0x80#8).cur)) = some (some 0x00#8, true, 0x0001#16, 0x010000#24) := rfl

/-- V2.3. -/
theorem test_wrDataPort_last_byte :
    (stepOn ((onSlot 0x05#8).setSlot 0x05#8 { (onSlot 0x05#8).slot 0x05#8 with cur := 0x00FFFF#24 }) 0x10101#17).map (fun t => (t.store, (t.slot 0x05#8).cur, t.irq.cause)) = some ([(0xFFFF, 0x01#8)], 0x000500#24, 0x0000#16) := rfl

/-- V2.6, V2.7. -/
theorem test_wrDataPort_out_of_bounds :
    (stepOn ((onSlot 0x80#8).setSlot 0x80#8 { (onSlot 0x80#8).slot 0x80#8 with cur := 0xFFFFFF#24 }) 0x10155#17).map (fun t => (t.store, t.status.memoryError, t.irq.cause, (t.slot 0x80#8).cur)) = some ([], true, 0x0001#16, 0xFFFFFF#24) := rfl

/-- V7.3. -/
theorem test_rdCfgFieldSelect :
    (stepOn (onField 0x09#8) 0x00200#17).map (fun t => t.rdata) = some (some 0x09#8) := rfl

/-- V7.3. -/
theorem test_wrCfgFieldSelect :
    (stepOn State.reset 0x10209#17).map (fun t => (t.window 0#2, t.window 1#2)) = some ({ active := 0x00#8, field := 0x09#8 }, { active := 0x00#8, field := 0x00#8 }) := rfl

/-- Section 2.3, LIM_M of slot 5. -/
theorem test_rdCfgData :
    (stepOn (onField 0x07#8) 0x00300#17).map (fun t => t.rdata) = some (some 0x06#8) := rfl

/-- V3.2, V3.13. -/
theorem test_wrCfgData :
    (stepOn (onField 0x01#8) 0x103AB#17).map (fun t => ((t.slot 0x05#8).cur, (t.slot 0x04#8).cur)) = some (0x00AB00#24, 0x000400#24) := rfl

/-- V4.7. -/
theorem test_rdCommand :
    (stepOn afterSixteen 0x00400#17).map (fun t => (t.rdata, t.slot 0x05#8)) = some (some 0x00#8, afterSixteen.slot 0x05#8) := rfl

/-- V4.1. -/
theorem test_wcmdNop :
    (stepOn afterSixteen 0x10400#17).map (fun t => t.slot 0x05#8) = some ({ cur := 0x000510#24, dflt := 0x000500#24, lim := 0x000600#24, step := 0x01#8, flags := 0x05#8 } : Slot) := rfl

/-- V4.2. -/
theorem test_wcmdResetIndex :
    (stepOn afterSixteen 0x10401#17).map (fun t => t.slot 0x05#8) = some ({ cur := 0x000500#24, dflt := 0x000500#24, lim := 0x000600#24, step := 0x01#8, flags := 0x05#8 } : Slot) := rfl

/-- V4.6. -/
theorem test_wcmdResetIndex_other_window :
    (stepOn afterSixteen 0x11401#17).map (fun t => t.slot 0x05#8) = some ({ cur := 0x000510#24, dflt := 0x000500#24, lim := 0x000600#24, step := 0x01#8, flags := 0x05#8 } : Slot) := rfl

/-- V4.3. -/
theorem test_wcmdSetDefaultToAddr :
    (stepOn afterSixteen 0x10402#17).map (fun t => t.slot 0x05#8) = some ({ cur := 0x000510#24, dflt := 0x000510#24, lim := 0x000600#24, step := 0x01#8, flags := 0x05#8 } : Slot) := rfl

/-- V4.4. -/
theorem test_wcmdSetLimitToAddr :
    (stepOn afterSixteen 0x10403#17).map (fun t => t.slot 0x05#8) = some ({ cur := 0x000510#24, dflt := 0x000500#24, lim := 0x000510#24, step := 0x01#8, flags := 0x05#8 } : Slot) := rfl

/-- V4.5. -/
theorem test_wcmdUnknown :
    (stepOn afterSixteen 0x104FF#17).map (fun t => t.slot 0x05#8) = some ({ cur := 0x000510#24, dflt := 0x000500#24, lim := 0x000600#24, step := 0x01#8, flags := 0x05#8 } : Slot) := rfl

/-- Section 2.6, a reserved offset. -/
theorem test_rdWReserved :
    (stepOn dirty 0x03F00#17).map (fun t => t.rdata) = some (some 0x00#8) := rfl

/-- Section 2.6, a reserved window. -/
theorem test_rdWinReserved :
    (stepOn dirty 0x07F00#17).map (fun t => t.rdata) = some (some 0x00#8) := rfl

/-- Section 2.6, a reserved shared address. -/
theorem test_rdSReserved :
    (stepOn dirty 0x0FE00#17).map (fun t => t.rdata) = some (some 0x00#8) := rfl

/-- Section 2.6, SHARED_COMMAND. -/
theorem test_rdSharedCommand :
    (stepOn dirty 0x0FF00#17).map (fun t => t.rdata) = some (some 0x00#8) := rfl

/-- Section 2.6, a reserved offset. -/
theorem test_wrWReserved :
    stepOn dirty 0x10577#17 = some dirty := rfl

/-- Section 2.6, a reserved window. -/
theorem test_wrWinReserved :
    stepOn dirty 0x14077#17 = some dirty := rfl

/-- Section 2.6, a reserved shared address. -/
theorem test_wrSReserved :
    stepOn dirty 0x1F677#17 = some dirty := rfl

/-- Section 2.6, DEVICE_STATUS. -/
theorem test_wrDeviceStatus :
    stepOn dirty 0x1F0FF#17 = some dirty := rfl

/-- V5.a. -/
theorem test_scmdNop :
    stepOn dirty 0x1FF00#17 = some dirty := rfl

/-- V5.f. -/
theorem test_scmdUnknown :
    stepOn dirty 0x1FF06#17 = some dirty := rfl

/-- Program P5: busy, in error, pending. -/
theorem test_rdDeviceStatus :
    (stepOn inFlight 0x0F000#17).map (fun t => t.rdata) = some (some 0xCA#8) := rfl

/-- Section 2.8. -/
theorem test_rdIrqCauseLow :
    (stepOn (withIrq 0x0305#16 0x0000#16 false) 0x0F100#17).map (fun t => (t.rdata, t.irq.cause)) = some (some 0x05#8, 0x0305#16) := rfl

/-- Section 2.8. -/
theorem test_rdIrqCauseHigh :
    (stepOn (withIrq 0x0305#16 0x0000#16 false) 0x0F200#17).map (fun t => (t.rdata, t.irq.cause)) = some (some 0x03#8, 0x0305#16) := rfl

/-- E2. -/
theorem test_wrIrqCauseLow :
    (stepOn (withIrq 0x0305#16 0xFFFF#16 true) 0x1F104#17).map (fun t => t.irq.cause) = some 0x0301#16 := rfl

/-- Section 2.8: a 1 written to a clear bit does not set it. -/
theorem test_wrIrqCauseLow_clear_bit :
    (stepOn (withIrq 0x0001#16 0xFFFF#16 true) 0x1F104#17).map (fun t => t.irq.cause) = some 0x0001#16 := rfl

/-- Section 2.8. -/
theorem test_wrIrqCauseHigh :
    (stepOn (withIrq 0x0305#16 0xFFFF#16 true) 0x1F201#17).map (fun t => t.irq.cause) = some 0x0205#16 := rfl

/-- Section 2.8. -/
theorem test_rdIrqMaskLow :
    (stepOn (withIrq 0x0000#16 0x120F#16 true) 0x0F300#17).map (fun t => t.rdata) = some (some 0x0F#8) := rfl

/-- Section 2.8. -/
theorem test_rdIrqMaskHigh :
    (stepOn (withIrq 0x0000#16 0x120F#16 true) 0x0F400#17).map (fun t => t.rdata) = some (some 0x12#8) := rfl

/-- Section 2.8. -/
theorem test_wrIrqMaskLow :
    (stepOn State.reset 0x1F30F#17).map (fun t => t.irq.mask) = some 0xFF0F#16 := rfl

/-- Section 2.8. -/
theorem test_wrIrqMaskHigh :
    (stepOn (withIrq 0x0000#16 0xFF0F#16 true) 0x1F400#17).map (fun t => t.irq.mask) = some 0x000F#16 := rfl

/-- E11. -/
theorem test_rdIrqEnable :
    (stepOn State.reset 0x0F500#17).map (fun t => t.rdata) = some (some 0x01#8) := rfl

/-- E11. -/
theorem test_wrIrqEnable :
    (stepOn (withIrq 0x0000#16 0xFFFF#16 false) 0x1F580#17).map (fun t => t.irq.enable) = some true := rfl

/-- V5.b. -/
theorem test_scmdResetAll :
    (stepOn dirty 0x1FF01#17).map (fun t => (t.slot 0x05#8, t.slot 0x80#8, t.irq)) = some (
      { cur := 0x000508#24, dflt := 0x000508#24, lim := 0x000600#24, step := 0x02#8, flags := 0x01#8 },
      dirty.slot 0x80#8, dirty.irq) := by decide

/-- V5.c. -/
theorem test_scmdFactoryReset :
    stepOn dirty 0x1FF02#17 = some { State.reset with
      win := dirty.win, irq := { cause := 0x0000#16, mask := 0x00FF#16, enable := false } } := rfl

/-- V5.d. -/
theorem test_scmdClearIrq :
    stepOn dirty 0x1FF03#17 = some { dirty with irq := { cause := 0x0000#16, mask := 0x00FF#16, enable := false } } := rfl

/-- V5.e. -/
theorem test_scmdSystemReset :
    stepOn dirty 0x1FF05#17 = some State.reset := rfl

/-- V5.2. -/
theorem test_scmdCopyBlock :
    (stepOn (copyState 0x000A#16 0x008000#24 0x008100#24 false) 0x1FF04#17).map (fun t => (t.status.dmaActive, t.irq.cause, t.xfer)) = some (true, 0x0000#16, some
      { src := 0x008000#24, dst := 0x008100#24, count := 0x000A#16
        todo := [0, 1, 2, 3, 4, 5, 6, 7, 8, 9] }) := rfl

/-- V5.4. -/
theorem test_scmdCopyBlock_out_of_bounds :
    (stepOn (copyState 0x0005#16 0x000000#24 0x00FFFC#24 false) 0x1FF04#17).map (fun t => (t.status.dmaActive, t.status.dmaError, t.status.memoryError, t.irq.cause, t.xfer)) = some (false, true, false, 0x0008#16, none) := rfl

/-- Section 2.3, writes. -/
theorem test_cfgCurL :
    (stepOn (onField 0x00#8) 0x103AB#17).map (fun t => (t.slot 0x05#8).cur) = some 0x0005AB#24 := rfl

/-- Section 2.3, writes. -/
theorem test_cfgCurH :
    (stepOn (onField 0x02#8) 0x103FF#17).map (fun t => (t.slot 0x05#8).cur) = some 0xFF0500#24 := rfl

/-- Section 2.3, writes. -/
theorem test_cfgDefL :
    (stepOn (onField 0x03#8) 0x10321#17).map (fun t => (t.slot 0x05#8).dflt) = some 0x000521#24 := rfl

/-- Section 2.3, writes. -/
theorem test_cfgDefM :
    (stepOn (onField 0x04#8) 0x10312#17).map (fun t => (t.slot 0x05#8).dflt) = some 0x001200#24 := rfl

/-- Section 2.3, writes. -/
theorem test_cfgDefH :
    (stepOn (onField 0x05#8) 0x10334#17).map (fun t => (t.slot 0x05#8).dflt) = some 0x340500#24 := rfl

/-- Section 2.3, writes. -/
theorem test_cfgLimL :
    (stepOn (onField 0x06#8) 0x10356#17).map (fun t => (t.slot 0x05#8).lim) = some 0x000656#24 := rfl

/-- Section 2.3, writes. -/
theorem test_cfgLimM :
    (stepOn (onField 0x07#8) 0x10378#17).map (fun t => (t.slot 0x05#8).lim) = some 0x007800#24 := rfl

/-- Section 2.3, writes. -/
theorem test_cfgLimH :
    (stepOn (onField 0x08#8) 0x10301#17).map (fun t => (t.slot 0x05#8).lim) = some 0x010600#24 := rfl

/-- Section 2.3, writes. -/
theorem test_cfgStep :
    (stepOn (onField 0x09#8) 0x103FF#17).map (fun t => (t.slot 0x05#8).step) = some 0xFF#8 := rfl

/-- Section 2.3, writes. -/
theorem test_cfgFlags :
    (stepOn (onField 0x0A#8) 0x103FF#17).map (fun t => (t.slot 0x05#8).flags) = some 0xFF#8 := rfl

/-- V3.9. -/
theorem test_cfgDmaSrc :
    (stepOn (onField 0x0B#8) 0x10380#17).map (fun t => t.dma) = some ({ src := 0x80#8, dst := 0x00#8, count := 0x0000#16 } : DmaConfig) := rfl

/-- Section 2.3, writes. -/
theorem test_cfgDmaDst :
    (stepOn (onField 0x0C#8) 0x10381#17).map (fun t => t.dma) = some ({ src := 0x00#8, dst := 0x81#8, count := 0x0000#16 } : DmaConfig) := rfl

/-- V3.10. -/
theorem test_cfgDmaCountL :
    (stepOn (onField 0x0D#8) 0x10334#17).map (fun t => t.dma.count) = some 0x0034#16 := rfl

/-- V3.10. -/
theorem test_cfgDmaCountH :
    (stepOn { onField 0x0E#8 with dma := { src := 0x00#8, dst := 0x00#8, count := 0x0034#16 } } 0x10312#17).map (fun t => t.dma.count) = some 0x1234#16 := rfl

/-- V3.11, V7.5. -/
theorem test_cfgUnknown :
    stepOn (onField 0x0F#8) 0x10377#17 = some (onField 0x0F#8).acknowledge := rfl

/-- Section 2.3, the reads of slot 5. -/
theorem test_cfgRows_read :
    (List.range 17).map (fun f => (stepOn (onField (BitVec.ofNat 8 f)) 0x00300#17).map State.rdata) =
      [0x00#8, 0x05#8, 0x00#8, 0x00#8, 0x05#8, 0x00#8, 0x00#8, 0x06#8, 0x00#8, 0x01#8, 0x05#8, 0x00#8,
        0x00#8, 0x00#8, 0x00#8, 0x00#8, 0x00#8].map (fun v => some (some v)) := by decide

/-- Section 2.5, DMA.MOVE 3. -/
theorem test_dmaMove :
    (match runEvent (.dmaMove 3) inFlight with
      | .next t => some (t.memRead 0x8103, t.xfer.map Xfer.todo)
      | _ => none) = some (0x13#8, some [1]) := by decide

/-- Section 2.5, DMA.COMPLETE, with cause bit 3 pending before it. -/
theorem test_dmaComplete :
    (match runEvent .dmaComplete allMoved with
      | .next t => some (t.xfer, t.status.dmaActive, t.irq.cause)
      | _ => none) = some (none, false, 0x000C#16) := by decide

/-- Section 2.8. -/
theorem test_extRaise :
    (match runEvent (.extRaise 0x0110#16) (withIrq 0x0004#16 0xFFFF#16 true) with
      | .next t => some t.irq.cause
      | _ => none) = some 0x0114#16 := by decide

/-- Rule R360. -/
theorem test_resetInput :
    runEvent .resetInput dirty = .next State.reset := rfl

/-- Section 2.8. -/
theorem test_irqPending :
    [Irq.mk 0x0000#16 0xFFFF#16 true, Irq.mk 0x0001#16 0xFFFF#16 true, Irq.mk 0x0001#16 0xFFFE#16 true,
      Irq.mk 0x0001#16 0xFFFF#16 false, Irq.mk 0x0100#16 0x00FF#16 true,
      Irq.mk 0x0100#16 0x0100#16 true].map Irq.pending = [false, true, false, false, false, true] := by
  decide

/-- Section 2.1, V1.1 to V1.23. -/
theorem test_advance :
    ∀ r ∈ ([
      (⟨0x000010#24, 0x000000#24, 0x000100#24, 0x01#8, 0x01#8⟩, 0x000011#24),
      (⟨0x000010#24, 0x000000#24, 0x000100#24, 0x00#8, 0x01#8⟩, 0x000010#24),
      (⟨0x000010#24, 0x000000#24, 0x000100#24, 0x05#8, 0x00#8⟩, 0x000010#24),
      (⟨0x000010#24, 0x000000#24, 0x000100#24, 0x05#8, 0x04#8⟩, 0x000010#24),
      (⟨0x000004#24, 0x000000#24, 0x000005#24, 0x01#8, 0x05#8⟩, 0x000000#24),
      (⟨0x000003#24, 0x000000#24, 0x000005#24, 0x04#8, 0x05#8⟩, 0x000000#24),
      (⟨0x000004#24, 0x000000#24, 0x000005#24, 0x01#8, 0x01#8⟩, 0x000005#24),
      (⟨0x000010#24, 0x000020#24, 0x000000#24, 0x01#8, 0x05#8⟩, 0x000020#24),
      (⟨0x008000#24, 0x008000#24, 0x000000#24, 0x03#8, 0x01#8⟩, 0x008003#24),
      (⟨0x000010#24, 0x000000#24, 0x000000#24, 0x01#8, 0x03#8⟩, 0x00000F#24),
      (⟨0x000010#24, 0x00001F#24, 0x000010#24, 0x01#8, 0x07#8⟩, 0x00001F#24),
      (⟨0x000011#24, 0x00001F#24, 0x000010#24, 0x01#8, 0x07#8⟩, 0x000010#24),
      (⟨0x000000#24, 0x000000#24, 0x000000#24, 0x01#8, 0x03#8⟩, 0xFFFFFF#24),
      (⟨0x000000#24, 0x00001F#24, 0x000010#24, 0x01#8, 0x07#8⟩, 0xFFFFFF#24),
      (⟨0x000001#24, 0x000000#24, 0x000000#24, 0x03#8, 0x07#8⟩, 0xFFFFFE#24),
      (⟨0xFFFFFF#24, 0x000000#24, 0x000000#24, 0x01#8, 0x01#8⟩, 0x000000#24),
      (⟨0xFFFFFF#24, 0x000100#24, 0x000200#24, 0x02#8, 0x05#8⟩, 0x000001#24),
      (⟨0x000100#24, 0x000000#24, 0x000000#24, 0xFF#8, 0x01#8⟩, 0x0001FF#24),
      (⟨0x000005#24, 0x000000#24, 0x000005#24, 0x00#8, 0x05#8⟩, 0x000000#24),
      (⟨0x000004#24, 0x000000#24, 0x000005#24, 0x00#8, 0x05#8⟩, 0x000004#24),
      (⟨0x000003#24, 0x000009#24, 0x000005#24, 0x00#8, 0x07#8⟩, 0x000009#24),
      (⟨0x000010#24, 0x000000#24, 0x000100#24, 0x01#8, 0xF9#8⟩, 0x000011#24),
      (⟨0x000020#24, 0x000020#24, 0x000010#24, 0x01#8, 0x05#8⟩, 0x000020#24)] : List (Slot × Addr)),
      r.1.nextCur testcfg = r.2 := by decide

/-- V5.10, V5.3, V5.5, V5.6, V5.7. -/
theorem test_copyBlock_outcomes :
    [(copyState 0x0000#16 0xFFFFFF#24 0xFFFFFF#24 true), copyState 0x000A#16 0x008000#24 0x008100#24 true,
      copyState 0x0005#16 0x000000#24 0x00FFFB#24 false, copyState 0x0001#16 0x010000#24 0x000000#24 false,
      copyState 0x0005#16 0x000000#24 0x00FFFC#24 true].map
      (fun s => ((s.copyBlock).irq.cause, (s.copyBlock).xfer.isSome)) =
      [(0x0000#16, false), (0x0008#16, false), (0x0000#16, true), (0x0008#16, false), (0x0008#16, false)] := by
  decide

/-- The placed word is the one the next step runs; a field id is consulted through window A. -/
theorem test_withFetchWord :
    step (State.reset.withFetchWord 17 0x1FF04) = exec .scmdCopyBlock State.reset ∧
    (match step (State.reset.withFetchWord 8 0x0A) with
      | .next t => some t.rdata
      | _ => none) = some (some 0x05#8) := by
  refine ⟨rfl, ?_⟩
  decide

/-! ### Witnesses: for every statement with hypotheses, operands and a state that meet them, each
clause at a boundary of its range -/

theorem witness_DecodeAfterEncodeIsIdentity :
    CfgIds.wf defaultCfgIds ∧ Instr.wf defaultCfgIds (.wcmdUnknown 3#2 0x04#8) = true ∧
    Instr.wf defaultCfgIds (.cfgUnknown 3#2 (.set 0xFF#8) 0x0F#8) = true := by decide

theorem witness_AddressDecodesByItsFields :
    (0x7F#8).toNat < 0x80 ∧ 0x80 ≤ (0x80#8).toNat := by decide

theorem witness_StepRunsTheDecodedInstruction :
    (State.reset.present 0x1FF04#17).schedule = .bus 0x1FF04#17 :: [] ∧
    decode (State.reset.present 0x1FF04#17).cfg.cfgIds (wordBytes 0x1FF04#17) = .ok .scmdCopyBlock ∧
    { inFlight with schedule := [Event.dmaMove 3] }.schedule = .dmaMove 3 :: [] ∧ State.reset.schedule = [] := by
  decide

theorem witness_EveryTransactionCompletes :
    busRw 0x00100#17 = false ∧ busRw 0x10100#17 = true := by decide

theorem witness_OnlyDataPortReadsHaveSideEffects :
    busRw 0x00300#17 = false ∧ ∀ w : WindowNo, busAddr 0x00300#17 ≠ 0#2 ++ w ++ 1#4 := by decide

theorem witness_WriteOnlyAndReservedAddressesReadZero :
    Instr.rdSReserved 0x7E#7 ∈ [Instr.rdCommand 0#2, .rdSharedCommand, .rdWReserved 0#2 5#4,
    .rdWinReserved 0x3F#6, .rdSReserved 0x7E#7] := by decide

theorem witness_IgnoredWritesChangeNothing :
    Instr.wcmdUnknown 0#2 0x04#8 ∈ [Instr.wcmdNop 0#2, .wcmdUnknown 0#2 0x04#8, .scmdNop, .scmdUnknown 0x04#8,
    .wrWReserved 0#2 5#4 0x04#8, .wrWinReserved 0x3F#6 0x04#8, .wrSReserved 0x7E#7 0x04#8,
    .wrDeviceStatus 0x04#8] := by decide

/-- Window A at slot 0x80, whose `cur` is `a`. -/
def at80 (a : Addr) (flags : Byte) : State :=
  (onSlot 0x80#8).setSlot 0x80#8
    { cur := a, dflt := a, lim := 0x000000#24, step := 0x01#8, flags := flags }

theorem witness_DataPortReadReturnsTheByteOrTheSentinel :
    ((at80 0x00FFFF#24 0x01#8).activeSlot 0#2).cur.toNat < (at80 0x00FFFF#24 0x01#8).cfg.capacity ∧
    (at80 0x010000#24 0x01#8).cfg.capacity ≤ ((at80 0x010000#24 0x01#8).activeSlot 0#2).cur.toNat := by
  decide

theorem witness_DataPortWriteStoresTheByteOrDropsIt :
    ((at80 0x00FFFF#24 0x01#8).activeSlot 0#2).cur.toNat < (at80 0x00FFFF#24 0x01#8).cfg.capacity ∧
    (at80 0x010000#24 0x01#8).cfg.capacity ≤ ((at80 0x010000#24 0x01#8).activeSlot 0#2).cur.toNat := by
  decide

theorem witness_AdvanceStepsAndWraps :
    (0x04#8).getLsbD testcfg.autoStepBit = false ∧
    ((0x05#8).getLsbD testcfg.autoStepBit = true ∧ (0x05#8).getLsbD testcfg.directionBit = false ∧
      (0x05#8).getLsbD testcfg.wrapBit = true) ∧
    ((0x07#8).getLsbD testcfg.autoStepBit = true ∧ (0x07#8).getLsbD testcfg.directionBit = true ∧
      (0x07#8).getLsbD testcfg.wrapBit = true) ∧
    Slot.nextCur testcfg ⟨0x000004#24, 0x000000#24, 0x000005#24, 0x01#8, 0x05#8⟩ = 0x000000#24 ∧
    Slot.nextCur testcfg ⟨0x000011#24, 0x00001F#24, 0x000010#24, 0x01#8, 0x07#8⟩ = 0x000010#24 := by
  decide

theorem witness_WriteThenReadWithoutAutoStepReturnsTheByte :
    ((at80 0x00FFFF#24 0x00#8).activeSlot 0#2).flags.getLsbD (at80 0x00FFFF#24 0x00#8).cfg.autoStepBit = false ∧
    ((at80 0x00FFFF#24 0x00#8).activeSlot 0#2).cur.toNat < (at80 0x00FFFF#24 0x00#8).cfg.capacity := by
  decide

/-- Window A at a slot with the given registers. -/
def atSlot (sl : Slot) : State := (onSlot 0x80#8).setSlot 0x80#8 sl

theorem witness_WrittenSequenceReadsBack :
    ∃ s bs, s = atSlot ⟨0x008000#24, 0x008000#24, 0x000000#24, 0x03#8, 0x01#8⟩ ∧ bs = [0x01#8, 0x02#8, 0x03#8, 0x04#8] ∧
    (s.activeSlot 0#2).flags.getLsbD s.cfg.autoStepBit = true ∧
    (s.activeSlot 0#2).flags.getLsbD s.cfg.directionBit = false ∧
    (s.activeSlot 0#2).flags.getLsbD s.cfg.wrapBit = false ∧
    (s.activeSlot 0#2).dflt = (s.activeSlot 0#2).cur ∧
    1 ≤ (s.activeSlot 0#2).step.toNat ∧
    bs.length * (s.activeSlot 0#2).step.toNat ≤ 2 ^ 24 ∧
    ∀ i < bs.length,
      ((s.activeSlot 0#2).cur.toNat + i * (s.activeSlot 0#2).step.toNat) % 2 ^ 24 < s.cfg.capacity := ⟨_, _, rfl, rfl, by decide⟩

theorem witness_WrittenSequenceReadsBack_below_the_limit :
    ∃ s bs, s = atSlot ⟨0x008000#24, 0x008000#24, 0x00800D#24, 0x03#8, 0x05#8⟩ ∧ bs = [0x01#8, 0x02#8, 0x03#8, 0x04#8] ∧
    (s.activeSlot 0#2).flags.getLsbD s.cfg.autoStepBit = true ∧
    (s.activeSlot 0#2).flags.getLsbD s.cfg.directionBit = false ∧
    ((s.activeSlot 0#2).flags.getLsbD s.cfg.wrapBit = true ∧
      ∀ i < bs.length, ((s.activeSlot 0#2).cur.toNat + (i + 1) * (s.activeSlot 0#2).step.toNat) % 2 ^ 24 <
        (s.activeSlot 0#2).lim.toNat) ∧
    (s.activeSlot 0#2).dflt = (s.activeSlot 0#2).cur ∧
    1 ≤ (s.activeSlot 0#2).step.toNat ∧
    bs.length * (s.activeSlot 0#2).step.toNat ≤ 2 ^ 24 ∧
    ∀ i < bs.length,
      ((s.activeSlot 0#2).cur.toNat + i * (s.activeSlot 0#2).step.toNat) % 2 ^ 24 < s.cfg.capacity := ⟨_, _, rfl, rfl, by decide⟩

theorem witness_WrappingWritesComeBackToTheDefault :
    ∃ (s : State) (bs : List Byte), s = atSlot ⟨0x000000#24, 0x000000#24, 0x000005#24, 0x01#8, 0x05#8⟩ ∧
    bs = [0xB0#8, 0xB1#8, 0xB2#8, 0xB3#8, 0xB4#8] ∧
    (s.activeSlot 0#2).flags.getLsbD s.cfg.autoStepBit = true ∧
    (s.activeSlot 0#2).flags.getLsbD s.cfg.directionBit = false ∧
    (s.activeSlot 0#2).flags.getLsbD s.cfg.wrapBit = true ∧
    (s.activeSlot 0#2).cur = (s.activeSlot 0#2).dflt ∧
    (s.activeSlot 0#2).dflt.toNat < (s.activeSlot 0#2).lim.toNat ∧
    1 ≤ (s.activeSlot 0#2).step.toNat ∧
    (s.activeSlot 0#2).lim.toNat + (s.activeSlot 0#2).step.toNat ≤ 2 ^ 24 ∧
    (s.activeSlot 0#2).lim.toNat ≤ s.cfg.capacity ∧
    bs.length = ((s.activeSlot 0#2).lim.toNat - (s.activeSlot 0#2).dflt.toNat +
      (s.activeSlot 0#2).step.toNat - 1) / (s.activeSlot 0#2).step.toNat := ⟨_, _, rfl, rfl, by decide⟩

theorem witness_WrappingWritesComeBackToTheDefault_step_two :
    ∃ (s : State) (bs : List Byte), s = atSlot ⟨0x000000#24, 0x000000#24, 0x000005#24, 0x02#8, 0x05#8⟩ ∧
    bs = [0xB0#8, 0xB1#8, 0xB2#8] ∧
    (s.activeSlot 0#2).flags.getLsbD s.cfg.autoStepBit = true ∧
    (s.activeSlot 0#2).flags.getLsbD s.cfg.directionBit = false ∧
    (s.activeSlot 0#2).flags.getLsbD s.cfg.wrapBit = true ∧
    (s.activeSlot 0#2).cur = (s.activeSlot 0#2).dflt ∧
    (s.activeSlot 0#2).dflt.toNat < (s.activeSlot 0#2).lim.toNat ∧
    1 ≤ (s.activeSlot 0#2).step.toNat ∧
    (s.activeSlot 0#2).lim.toNat + (s.activeSlot 0#2).step.toNat ≤ 2 ^ 24 ∧
    (s.activeSlot 0#2).lim.toNat ≤ s.cfg.capacity ∧
    bs.length = ((s.activeSlot 0#2).lim.toNat - (s.activeSlot 0#2).dflt.toNat +
      (s.activeSlot 0#2).step.toNat - 1) / (s.activeSlot 0#2).step.toNat := ⟨_, _, rfl, rfl, by decide⟩

theorem witness_UnknownFieldsReadZeroAndIgnoreWrites :
    ∀ x : CfgField, (onField 0x0F#8).cfg.cfgIds.idOf x ≠ ((onField 0x0F#8).window 0#2).field := by intro x; cases x <;> decide

theorem witness_CfgDataAccessesTheSelectedByte :
    (onField 0x0E#8).cfg.cfgIds.wf ∧
    ((onField 0x0E#8).window 0#2).field = (onField 0x0E#8).cfg.cfgIds.idOf .dmaCountH := by decide

theorem witness_CfgFieldReadsBackWhatWasWritten :
    (onField 0x0E#8).cfg.cfgIds.wf ∧
    ((onField 0x0E#8).window 0#2).field = (onField 0x0E#8).cfg.cfgIds.idOf .dmaCountH := by decide

theorem witness_DeviceStatusReadComposesItsBits :
    inFlight.cfg.numbersWf ∧ (5 : Fin 8) ≠ inFlight.cfg.statusDmaErrorBit := by decide

theorem witness_IrqCauseReadsRawAndClearsBitsWrittenOne :
    (7 : Nat) < 8 ∧ 8 ≤ (8 : Nat) := by decide

theorem witness_IrqEnableNormalises :
    State.reset.irq.enable = true ∧ dirty.irq.enable = false := by decide

theorem witness_IrqLineFollowsCauseMaskAndEnable :
    (withIrq 0x8000#16 0x8000#16 true).irqLine = true ∧
    (withIrq 0x8000#16 0x7FFF#16 true).irqLine = false := by decide

theorem witness_CopyOfZeroBytesIsANoOp :
    (copyState 0x0000#16 0xFFFFFF#24 0xFFFFFF#24 true).dma.count.toNat = 0 := by decide

theorem witness_CopyOutOfBoundsIsRejected :
    ∃ s : State, s = (copyState 0x0005#16 0x000000#24 0x00FFFC#24 false) ∧ 1 ≤ s.dma.count.toNat ∧
    s.cfg.capacity < (s.slot s.dma.dst).cur.toNat + s.dma.count.toNat ∧ s.cfg.copyOobRaisesMemoryError = false := ⟨_, rfl, by decide⟩

theorem witness_CopyOutOfBoundsIsRejected_source :
    ∃ s : State, s = { copyState 0x0001#16 0x010000#24 0x000000#24 true with
      cfg := { testcfg with copyOobRaisesMemoryError := true } } ∧ 1 ≤ s.dma.count.toNat ∧
    s.cfg.capacity < (s.slot s.dma.src).cur.toNat + s.dma.count.toNat ∧ s.cfg.copyOobRaisesMemoryError = true := ⟨_, rfl, by decide⟩

theorem witness_CopyWhileActiveIsRejected :
    ∃ s : State, s = (copyState 0x000A#16 0x008000#24 0x008100#24 true) ∧ 1 ≤ s.dma.count.toNat ∧
    (s.slot s.dma.src).cur.toNat + s.dma.count.toNat ≤ s.cfg.capacity ∧ (s.slot s.dma.dst).cur.toNat + s.dma.count.toNat ≤ s.cfg.capacity ∧
    s.status.dmaActive = true := ⟨_, rfl, by decide⟩

theorem witness_CopyIsAcceptedAndCapturesItsRange :
    ∃ s : State, s = (copyState 0x0005#16 0x000000#24 0x00FFFB#24 false) ∧ 1 ≤ s.dma.count.toNat ∧
    (s.slot s.dma.src).cur.toNat + s.dma.count.toNat ≤ s.cfg.capacity ∧ (s.slot s.dma.dst).cur.toNat + s.dma.count.toNat = s.cfg.capacity ∧
    s.status.dmaActive = false := ⟨_, rfl, by decide⟩

theorem witness_DmaMoveMovesOneByte :
    ∃ (s : State) (x : Xfer), s = inFlight ∧ s.xfer = some x ∧ 3 ∈ x.todo ∧ x.todo.Nodup ∧
    x.src.toNat + 3 < s.cfg.capacity ∧ x.dst.toNat + 3 < s.cfg.capacity := ⟨_, _, rfl, rfl, by decide⟩

theorem witness_DmaCompleteEndsTheTransfer :
    (∃ x : Xfer, allMoved.xfer = some x ∧ x.todo = [] ∧ allMoved.irq.mask.getLsbD 2 = true ∧
    allMoved.irq.enable = true) ∧ (∀ x, inFlight.xfer = some x → x.todo ≠ []) ∧ State.reset.xfer = none := ⟨⟨_, rfl, by decide⟩, fun _ h => by cases h; decide, rfl⟩

theorem witness_DisabledDmaStepsAreRefused :
    State.reset.xfer = none ∧ ∃ x : Xfer, inFlight.xfer = some x ∧ 0 ∉ x.todo ∧ x.todo ≠ [] := ⟨rfl, _, rfl, by decide⟩

theorem witness_BlockCopyCopiesInAnyOrder :
    ∃ (s : State) (order : List Nat), s = copyState 0x0003#16 0x000000#24 0x000003#24 false ∧ order = [2, 0, 1] ∧
    1 ≤ s.dma.count.toNat ∧ (s.slot s.dma.src).cur.toNat + s.dma.count.toNat ≤ s.cfg.capacity ∧
    (s.slot s.dma.dst).cur.toNat + s.dma.count.toNat ≤ s.cfg.capacity ∧ s.status.dmaActive = false ∧
    (s.slot s.dma.src).cur.toNat + s.dma.count.toNat ≤ (s.slot s.dma.dst).cur.toNat ∧
    order.Perm (List.range s.dma.count.toNat) := ⟨_, _, rfl, rfl, by decide⟩

theorem witness_BlockCopyCopiesInAnyOrder_destination_first :
    ∃ (s : State) (order : List Nat), s = copyState 0x0003#16 0x00FFFD#24 0x00FFFA#24 false ∧ order = [1, 2, 0] ∧
    1 ≤ s.dma.count.toNat ∧ (s.slot s.dma.src).cur.toNat + s.dma.count.toNat ≤ s.cfg.capacity ∧
    (s.slot s.dma.dst).cur.toNat + s.dma.count.toNat ≤ s.cfg.capacity ∧ s.status.dmaActive = false ∧
    (s.slot s.dma.dst).cur.toNat + s.dma.count.toNat ≤ (s.slot s.dma.src).cur.toNat ∧
    order.Perm (List.range s.dma.count.toNat) := ⟨_, _, rfl, rfl, by decide⟩

theorem witness_CopyOntoItselfLeavesTheStore :
    ∃ (s : State) (order : List Nat), s = copyState 0x0004#16 0x008000#24 0x008000#24 false ∧ order = [3, 0, 2, 1] ∧
    1 ≤ s.dma.count.toNat ∧ (s.slot s.dma.src).cur.toNat + s.dma.count.toNat ≤ s.cfg.capacity ∧
    (s.slot s.dma.dst).cur = (s.slot s.dma.src).cur ∧ s.status.dmaActive = false ∧
    order.Perm (List.range s.dma.count.toNat) := ⟨_, _, rfl, rfl, by decide⟩

/-- A state in the middle of a transfer meets the invariant, whatever is scheduled. -/
theorem inFlight_inv (es : List Event) : State.Inv { inFlight with schedule := es } where
  cfg_wf := testcfg_wf
  store_wf := by
    show Memory.wf inFlight.store
    decide
  store_inside := by
    show ∀ c ∈ inFlight.store, c.1 < inFlight.cfg.capacity
    decide
  active_iff := rfl
  ready := rfl
  dead_windows := by
    show ∀ j : Fin 8, 4 ≤ j.val → inFlight.win[j] = { active := 0x00#8, field := 0x00#8 }
    decide
  xfer_inv := by
    intro x hx
    obtain rfl := Option.some.inj hx
    exact ⟨by decide, by show 0x8004 ≤ testcfg.capacity; decide,
      by show 0x8104 ≤ testcfg.capacity; decide, by decide, by decide⟩

theorem witness_EveryStepKeepsTheInvariant :
    ∃ s t : State, s = { inFlight with schedule := [.dmaMove 3] } ∧ s.Inv ∧ step s = .next t := ⟨_, _, rfl, inFlight_inv _, rfl⟩

theorem witness_InvariantStatesNeverFault :
    ∃ s : State, s = { inFlight with schedule := [.dmaComplete] } ∧ s.Inv ∧
    step s = .refused .stepNotEnabled := ⟨_, rfl, inFlight_inv _, rfl⟩

theorem witness_ErrorStatusBitsAreSticky :
    ∃ t u : State, runEvent (.bus 0x1FF03#17) dirty = .next t ∧ dirty.status.memoryError = true ∧
    runEvent (.dmaMove 3) inFlight = .next u ∧ inFlight.status.dmaError = true := ⟨_, _, rfl, rfl, rfl, rfl⟩

theorem witness_CauseBitsAreClearedOnlyByAcknowledgeOrReset :
    ∃ t : State, runEvent (.bus 0x1F280#17) (withIrq 0x8000#16 0xFFFF#16 true) = .next t ∧ (15 : Nat) < 16 ∧
    (withIrq 0x8000#16 0xFFFF#16 true).irq.cause.getLsbD 15 = true ∧ t.irq.cause.getLsbD 15 = false := ⟨_, rfl, by decide⟩

theorem witness_CauseBitsAreRaisedOnlyByTheirSources :
    ∃ t : State, runEvent .dmaComplete allMoved = .next t ∧ allMoved.irq.cause.getLsbD 2 = false ∧
    t.irq.cause.getLsbD 2 = true := ⟨_, rfl, by decide⟩

theorem witness_WindowStateChangesOnlyByItsOwnRegisters :
    ∃ t : State, runEvent (.bus 0x13083#17) State.reset = .next t ∧
    t.win[(3 : Fin 8)] ≠ State.reset.win[(3 : Fin 8)] := ⟨_, rfl, by decide⟩

theorem witness_SlotsChangeOnlyThroughTheirWindowsOrResets :
    ∃ t : State, runEvent (.bus 0x10401#17) afterSixteen = .next t ∧
    t.slot 0x05#8 ≠ afterSixteen.slot 0x05#8 := ⟨_, rfl, by decide⟩

theorem witness_StoreChangesOnlyByItsWriters :
    ∃ t : State, runEvent (.dmaMove 3) inFlight = .next t ∧ t.memRead 0x8103 ≠ inFlight.memRead 0x8103 := ⟨_, rfl, by decide⟩

theorem witness_InvariantHoldsAtReset :
    Config.wf testcfg := testcfg_wf

theorem witness_TestLayoutMeetsTheLayoutConstraints :
    (127 : Fin 256).val < 128 ∧ 128 ≤ (128 : Fin 256).val := by decide

end Sys2Proof.Tests
end

namespace Sys2Proof

/-! ### The word of a decoded transaction (rule R100, rule R114) -/

/-- The word of a window register's read is that register's read, whatever row it selects. -/
theorem word_decodeWindowRead (w : WindowNo) (off : BitVec 4) :
    (decodeWindowRead w off).word = busWord false (windowAddr w off) 0x00#8 := by
  unfold decodeWindowRead
  split_ifs <;> subst_vars <;> rfl

theorem word_decodeWindowCommand (w : WindowNo) (c : Byte) :
    (decodeWindowCommand w c).word = busWord true (windowAddr w 4#4) c := by
  unfold decodeWindowCommand
  split_ifs <;> subst_vars <;> rfl

theorem word_decodeWindowWrite (w : WindowNo) (off : BitVec 4) (b : Byte) :
    (decodeWindowWrite w off b).word = busWord true (windowAddr w off) b := by
  by_cases hcmd : off = 4#4
  · subst hcmd
    exact word_decodeWindowCommand w b
  · unfold decodeWindowWrite
    split_ifs <;> subst_vars <;> rfl

theorem word_decodeSharedRead (sreg : BitVec 7) :
    (decodeSharedRead sreg).word = busWord false (sharedAddr sreg) 0x00#8 := by
  unfold decodeSharedRead
  split_ifs <;> subst_vars <;> rfl

theorem word_decodeSharedCommand (c : Byte) :
    (decodeSharedCommand c).word = busWord true 0xFF#8 c := by
  unfold decodeSharedCommand
  split_ifs <;> subst_vars <;> rfl

theorem word_decodeSharedWrite (sreg : BitVec 7) (b : Byte) :
    (decodeSharedWrite sreg b).word = busWord true (sharedAddr sreg) b := by
  by_cases hcmd : sreg = 0x7F#7
  · subst hcmd
    exact word_decodeSharedCommand b
  · unfold decodeSharedWrite
    split_ifs <;> subst_vars <;> rfl

/-- The word of the decoded row is the canonical form of the word that was decoded (rule R100). -/
theorem word_decodeBus (T : BusWord) : (decodeBus T).word = canonicalWord T := by
  obtain ⟨rw, addr, data, rfl⟩ := exists_busWord T
  have hc : canonicalWord (busWord rw addr data) = busWord rw addr (if rw then data else 0x00#8) := by
    cases rw <;> simp [canonicalWord]
  rw [hc, decodeBus_busWord]
  obtain ⟨w, off, rfl⟩ | ⟨low, rfl⟩ | ⟨sreg, rfl⟩ := addr_cases addr
  · rw [decodeTransaction_window]
    cases rw
    · exact word_decodeWindowRead w off
    · exact word_decodeWindowWrite w off data
  · rw [decodeTransaction_reservedWindow]
    cases rw <;> rfl
  · rw [decodeTransaction_shared]
    cases rw
    · exact word_decodeSharedRead sreg
    · exact word_decodeSharedWrite sreg data

@[simp] theorem busRw_canonicalWord (T : BusWord) : busRw (canonicalWord T) = busRw T := by
  unfold canonicalWord
  split <;> simp_all

@[simp] theorem busAddr_canonicalWord (T : BusWord) : busAddr (canonicalWord T) = busAddr T := by
  unfold canonicalWord
  split <;> simp

/-- A word has the address of the row it selects. -/
theorem busAddr_of_decodeBus {T : BusWord} {i : Instr} (h : decodeBus T = i) :
    busAddr T = busAddr i.word := by
  rw [← h, word_decodeBus, busAddr_canonicalWord]

/-- A word that selects a row for writes is that row's word, data byte and all. -/
theorem eq_word_of_decodeBus {T : BusWord} {i : Instr} (h : decodeBus T = i)
    (hw : busRw i.word = true) : T = i.word := by
  rw [← h, word_decodeBus, busRw_canonicalWord] at hw
  rw [← h, word_decodeBus, canonicalWord, if_pos hw]

/-- A CFG row is consulted at its window's CFG_DATA register (rule R266, rule R267). -/
@[simp] theorem busAddr_cfgDataWord (w : WindowNo) (a : CfgAccess) :
    busAddr (cfgDataWord w a) = windowAddr w 3#4 := by
  cases a <;> simp [cfgDataWord]

end Sys2Proof

namespace Sys2Proof.Machine

/-! ### The end of a transaction (rule R77)

`reply` and `acknowledge` are one operation that leaves `bus_rdata` at some value or none. -/

/-- The state at the end of a transaction that leaves `r` on `bus_rdata`. -/
def State.answer (s : State) (r : Option Byte) : State := { s with rdata := r }

/-! ### What an instruction can do

The shared operation behind each row of spec/opcode_table.json, before the byte on `bus_rdata` is
set. A row that is named carries its operands; where several rows share an effect, what they have in
common stands as a premise. -/

/-- `Effect s i u`: the instruction `i` can take the state `s` to `u`. -/
inductive Effect (s : State) : Instr → State → Prop
  | unchanged (i : Instr) : Effect s i s
  | selectSlot (w : WindowNo) (b : Byte) :
      Effect s (.wrIdxSelect w b) (s.setWindow w { s.window w with active := b })
  | selectField (w : WindowNo) (b : Byte) :
      Effect s (.wrCfgFieldSelect w b) (s.setWindow w { s.window w with field := b })
  | dataRead (w : WindowNo) : Effect s (.rdDataPort w) (s.engineRead (s.activeIx w))
  | dataWrite (w : WindowNo) (b : Byte) :
      Effect s (.wrDataPort w b) (s.engineWrite (s.activeIx w) b)
  /-- a command or a configuration field of the active slot -/
  | setActiveSlot {i : Instr} {w : WindowNo} {off : BitVec 4}
      (hi : busAddr i.word = windowAddr w off) (sl : Slot) : Effect s i (s.setSlot (s.activeIx w) sl)
  /-- a configuration field of the DMA record -/
  | setDma {i : Instr} {w : WindowNo} (hi : busAddr i.word = windowAddr w 3#4) (d : DmaConfig) :
      Effect s i { s with dma := d }
  | acknowledgeLow (b : Byte) : Effect s (.wrIrqCauseLow b) (s.irqAcknowledgeLow b)
  | acknowledgeHigh (b : Byte) : Effect s (.wrIrqCauseHigh b) (s.irqAcknowledgeHigh b)
  | maskLow (b : Byte) : Effect s (.wrIrqMaskLow b) (s.irqSetMask (withLowByte s.irq.mask b))
  | maskHigh (b : Byte) : Effect s (.wrIrqMaskHigh b) (s.irqSetMask (withHighByte s.irq.mask b))
  | enable (b : Byte) : Effect s (.wrIrqEnable b) (s.irqSetGlobalEnable (b != 0x00#8))
  | resetAll : Effect s .scmdResetAll s.resetAllSlots
  | factoryReset : Effect s .scmdFactoryReset s.engineInit.irqClearAll
  | clearIrq : Effect s .scmdClearIrq s.irqClearAll
  | copyBlock : Effect s .scmdCopyBlock s.copyBlock
  | systemReset : Effect s .scmdSystemReset s.hardReset

/-- The outcome `R` of the instruction `i` is a next state, reached by an effect of `i`. -/
def Completes (s : State) (i : Instr) (R : Result) : Prop :=
  ∃ u r, Effect s i u ∧ R = .next (u.answer r)

theorem reply_completes {s u : State} {i : Instr} (hu : Effect s i u) (v : Byte) :
    Completes s i (.next (u.reply v)) := ⟨u, some v, hu, rfl⟩

theorem acknowledge_completes {s u : State} {i : Instr} (hu : Effect s i u) :
    Completes s i (.next u.acknowledge) := ⟨u, none, hu, rfl⟩

theorem slotField_completes (get : Slot → Byte) (put : Slot → Byte → Slot) (a : CfgAccess)
    (s : State) {i : Instr} {w : WindowNo} (hi : busAddr i.word = windowAddr w 3#4) :
    Completes s i (slotField get put w a s) := by
  cases a with
  | get => exact reply_completes (.unchanged i) _
  | set b => exact acknowledge_completes (.setActiveSlot hi (put (s.activeSlot w) b))

theorem dmaField_completes (get : DmaConfig → Byte) (put : DmaConfig → Byte → DmaConfig)
    (a : CfgAccess) (s : State) {i : Instr} {w : WindowNo}
    (hi : busAddr i.word = windowAddr w 3#4) : Completes s i (dmaField get put a s) := by
  cases a with
  | get => exact reply_completes (.unchanged i) _
  | set b => exact acknowledge_completes (.setDma hi (put s.dma b))

theorem execCfgUnknown_completes (w : WindowNo) (a : CfgAccess) (f : Byte) (s : State) (i : Instr) :
    Completes s i (execCfgUnknown w a f s) := by
  cases a with
  | get => exact reply_completes (.unchanged i) _
  | set b => exact acknowledge_completes (.unchanged i)

/-- An access of CFG_DATA completes, whichever row the window's field register selects. -/
theorem consultCfgRow_completes (a : CfgAccess) (s : State) {i : Instr} {w : WindowNo}
    (hi : busAddr i.word = windowAddr w 3#4) : Completes s i (consultCfgRow w a s) := by
  unfold consultCfgRow
  cases s.cfg.cfgIds.fieldOf (s.window w).field with
  | none => exact execCfgUnknown_completes w a _ s i
  | some x =>
    cases x with
    | dmaSrc | dmaDst | dmaCountL | dmaCountH => exact dmaField_completes _ _ a s hi
    | _ => exact slotField_completes _ _ a s hi

/-- Every instruction completes by one of its effects (rule R77, rule R247). -/
theorem exec_completes (i : Instr) (s : State) : Completes s i (exec i s) := by
  unfold exec
  cases i with
  | wrIdxSelect w b => exact acknowledge_completes (.selectSlot w b)
  | wrCfgFieldSelect w b => exact acknowledge_completes (.selectField w b)
  | rdDataPort w => exact reply_completes (.dataRead w) _
  | wrDataPort w b => exact acknowledge_completes (.dataWrite w b)
  | rdCfgData w => exact consultCfgRow_completes .get s (by simp [Instr.word])
  | wrCfgData w b => exact consultCfgRow_completes (.set b) s (by simp [Instr.word])
  | wcmdResetIndex w | wcmdSetDefaultToAddr w | wcmdSetLimitToAddr w =>
    exact acknowledge_completes (.setActiveSlot (w := w) (off := 4#4) (by simp [Instr.word]) _)
  | wrIrqCauseLow b => exact acknowledge_completes (.acknowledgeLow b)
  | wrIrqCauseHigh b => exact acknowledge_completes (.acknowledgeHigh b)
  | wrIrqMaskLow b => exact acknowledge_completes (.maskLow b)
  | wrIrqMaskHigh b => exact acknowledge_completes (.maskHigh b)
  | wrIrqEnable b => exact acknowledge_completes (.enable b)
  | scmdResetAll => exact acknowledge_completes (.resetAll)
  | scmdFactoryReset => exact acknowledge_completes (.factoryReset)
  | scmdClearIrq => exact acknowledge_completes (.clearIrq)
  | scmdCopyBlock => exact acknowledge_completes (.copyBlock)
  | scmdSystemReset => exact acknowledge_completes (.systemReset)
  | cfgCurL w a | cfgCurM w a | cfgCurH w a | cfgDefL w a | cfgDefM w a | cfgDefH w a
  | cfgLimL w a | cfgLimM w a | cfgLimH w a | cfgStep w a | cfgFlags w a =>
    exact slotField_completes _ _ a s (busAddr_cfgDataWord w a)
  | cfgDmaSrc w a | cfgDmaDst w a | cfgDmaCountL w a | cfgDmaCountH w a =>
    exact dmaField_completes _ _ a s (busAddr_cfgDataWord w a)
  | cfgUnknown w a f => exact execCfgUnknown_completes w a f s _
  | rdIdxSelect _ | rdCfgFieldSelect _ | rdCommand _ | rdWReserved _ _ | rdWinReserved _
  | rdDeviceStatus | rdIrqCauseLow | rdIrqCauseHigh | rdIrqMaskLow | rdIrqMaskHigh | rdIrqEnable
  | rdSharedCommand | rdSReserved _ => exact reply_completes (.unchanged _) _
  | wcmdNop _ | wcmdUnknown _ _ | wrWReserved _ _ _ | wrWinReserved _ _ | wrDeviceStatus _ | scmdNop
  | scmdUnknown _ | wrSReserved _ _ => exact acknowledge_completes (.unchanged _)

/-! ### What an agent's step can do -/

/-- `Taken s e t`: the agent's step `e` can take the state `s` to `t` (rule R7). -/
inductive Taken (s : State) : Event → State → Prop
  | bus {T : BusWord} {i : Instr} {u : State} (r : Option Byte) (hT : decodeBus T = i)
      (hu : Effect s i u) : Taken s (.bus T) (u.answer r)
  | dmaMove {i : Nat} {x : Xfer} (hx : s.xfer = some x) (hi : i ∈ x.todo)
      (hsrc : x.src.toNat + i < s.cfg.capacity) (hdst : x.dst.toNat + i < s.cfg.capacity) :
      Taken s (.dmaMove i) (s.moveByte x i)
  | dmaComplete {x : Xfer} (hx : s.xfer = some x) (htodo : x.todo = []) :
      Taken s .dmaComplete s.completeTransfer
  | extRaise (bits : Half) : Taken s (.extRaise bits) (s.irqRaise bits)
  | resetInput : Taken s .resetInput s.hardReset.acknowledge

/-- Everything that one step of one agent can do. -/
theorem runEvent_next {s t : State} {e : Event} (h : runEvent e s = .next t) : Taken s e t := by
  cases e with
  | bus T =>
    obtain ⟨u, r, hu, hexec⟩ := exec_completes (decodeBus T) s
    cases hexec.symm.trans h
    exact .bus r rfl hu
  | dmaMove i =>
    obtain ⟨x, hx, hi, hsrc, hdst, rfl⟩ := State.dmaMove_next h
    exact .dmaMove hx hi hsrc hdst
  | dmaComplete =>
    obtain ⟨x, hx, htodo, rfl⟩ := State.dmaComplete_next h
    exact .dmaComplete hx htodo
  | extRaise bits =>
    cases h
    exact .extRaise bits
  | resetInput =>
    cases h
    exact .resetInput

/-! ### The outcomes of COPY_BLOCK -/

/-- `COPY_BLOCK()` leaves the state, raises DmaError with or without MemoryError, or accepts the copy
of a range of at least one byte, inside the store at both ends. -/
theorem State.copyBlock_outcomes (s : State) :
    s.copyBlock = s ∨ s.copyBlock = s.raiseDmaError ∨
    s.copyBlock = s.raiseDmaError.raiseMemoryError ∨
    (1 ≤ s.dma.count.toNat ∧
      (s.slot s.dma.src).cur.toNat + s.dma.count.toNat ≤ s.cfg.capacity ∧
      (s.slot s.dma.dst).cur.toNat + s.dma.count.toNat ≤ s.cfg.capacity ∧
      s.copyBlock = s.acceptCopy (s.slot s.dma.src).cur (s.slot s.dma.dst).cur s.dma.count) := by
  obtain ⟨-, h⟩ | ⟨-, -, h⟩ | ⟨hcount, hsrc, hdst, ⟨-, h⟩ | ⟨-, h⟩⟩ := s.copyBlock_cases
  · exact .inl h
  · obtain ⟨-, hr⟩ | ⟨-, hr⟩ := s.rejectCopyBounds_cases
    · exact .inr (.inl (h.trans hr))
    · exact .inr (.inr (.inl (h.trans hr)))
  · exact .inr (.inl h)
  · have hpos : s.dma.count.toNat ≠ 0 := fun h0 => hcount (BitVec.eq_of_toNat_eq h0)
    exact .inr (.inr (.inr ⟨Nat.one_le_iff_ne_zero.2 hpos, hsrc, hdst, h⟩))

@[simp] theorem State.copyBlock_slot (s : State) (k : SlotIx) : s.copyBlock.slot k = s.slot k := by
  obtain h | h | h | ⟨-, -, -, h⟩ := s.copyBlock_outcomes <;> simp [h]

@[simp] theorem State.copyBlock_memRead (s : State) (a : Nat) :
    s.copyBlock.memRead a = s.memRead a := by
  obtain h | h | h | ⟨-, -, -, h⟩ := s.copyBlock_outcomes <;> simp [h]

/-! ### The store and the slots after an indexed access -/

@[simp] theorem State.engineRead_memRead (s : State) (k : SlotIx) (a : Nat) :
    (s.engineRead k).memRead a = s.memRead a := by
  obtain ⟨-, h, -⟩ | ⟨-, h, -⟩ := s.engineRead_cases k <;> simp [h]

/-- `ENGINE.WRITE(k, b)` changes no byte but the one at the slot's `cur`, which becomes `b`. -/
theorem State.engineWrite_memRead_changed {s : State} {k : SlotIx} {b : Byte} {a : Nat}
    (h : (s.engineWrite k b).memRead a ≠ s.memRead a) :
    a = (s.slot k).cur.toNat ∧ (s.engineWrite k b).memRead a = b := by
  obtain ⟨-, hw⟩ | ⟨-, hw⟩ := s.engineWrite_cases k b <;> rw [hw] at h ⊢
  · rw [State.advance_memRead, State.memRead_memWrite] at h ⊢
    by_cases ha : (s.slot k).cur.toNat = a
    · exact ⟨ha.symm, if_pos ha⟩
    · exact absurd (if_neg ha) h
  · exact absurd (s.raiseMemoryError_memRead a) h

theorem State.slot_advance_other (s : State) {k j : SlotIx} (h : k ≠ j) :
    (s.advance k).slot j = s.slot j := by
  rw [State.slot_advance, if_neg h]

theorem State.engineRead_slot_other (s : State) {k j : SlotIx} (h : k ≠ j) :
    (s.engineRead k).slot j = s.slot j := by
  obtain ⟨-, hr, -⟩ | ⟨-, hr, -⟩ := s.engineRead_cases k
  · rw [hr, State.slot_advance_other s h]
  · rw [hr, State.raiseMemoryError_slot]

theorem State.engineWrite_slot_other (s : State) (b : Byte) {k j : SlotIx} (h : k ≠ j) :
    (s.engineWrite k b).slot j = s.slot j := by
  obtain ⟨-, hw⟩ | ⟨-, hw⟩ := s.engineWrite_cases k b
  · rw [hw, State.slot_advance_other _ h, State.memWrite_slot]
  · rw [hw, State.raiseMemoryError_slot]

/-! ### Status errors and cause bits that an operation keeps -/

/-- A status error bit set in `s` is set in `t`. -/
def ErrorsKept (s t : State) : Prop :=
  (s.status.memoryError = true → t.status.memoryError = true) ∧
    (s.status.dmaError = true → t.status.dmaError = true)

/-- A cause bit set in `s` is set in `t`. -/
def CauseKept (s t : State) : Prop :=
  ∀ n, s.irq.cause.getLsbD n = true → t.irq.cause.getLsbD n = true

theorem State.engineRead_errorsKept (s : State) (k : SlotIx) : ErrorsKept s (s.engineRead k) := by
  obtain ⟨-, h, -⟩ | ⟨-, h, -⟩ := s.engineRead_cases k <;> simp [ErrorsKept, h]

theorem State.engineWrite_errorsKept (s : State) (k : SlotIx) (b : Byte) :
    ErrorsKept s (s.engineWrite k b) := by
  obtain ⟨-, h⟩ | ⟨-, h⟩ := s.engineWrite_cases k b <;> simp [ErrorsKept, h]

theorem State.copyBlock_errorsKept (s : State) : ErrorsKept s s.copyBlock := by
  obtain h | h | h | ⟨-, -, -, h⟩ := s.copyBlock_outcomes <;> simp [ErrorsKept, h]

theorem State.irqRaise_causeKept (s : State) (bits : Half) : CauseKept s (s.irqRaise bits) :=
  fun n h => by simp [h]

theorem State.engineRead_causeKept (s : State) (k : SlotIx) : CauseKept s (s.engineRead k) := by
  intro n hn
  obtain ⟨-, h, -⟩ | ⟨-, h, -⟩ := s.engineRead_cases k <;> simp [h, hn]

theorem State.engineWrite_causeKept (s : State) (k : SlotIx) (b : Byte) :
    CauseKept s (s.engineWrite k b) := by
  intro n hn
  obtain ⟨-, h⟩ | ⟨-, h⟩ := s.engineWrite_cases k b <;> simp [h, hn]

theorem State.copyBlock_causeKept (s : State) : CauseKept s s.copyBlock := by
  intro n hn
  obtain h | h | h | ⟨-, -, -, h⟩ := s.copyBlock_outcomes <;> simp [h, hn]

/-- `irq_acknowledge_low(b)` clears no bit but those of the low half that are 1 in `b`. -/
theorem State.irqAcknowledgeLow_cleared {s : State} {b : Byte} {n : Nat}
    (hset : s.irq.cause.getLsbD n = true)
    (hclear : (s.irqAcknowledgeLow b).irq.cause.getLsbD n = false) :
    n < 8 ∧ b.getLsbD n = true := by
  simpa [getLsbD_acknowledgeLow, hset] using hclear

/-- `irq_acknowledge_high(b)` clears no bit but those of the high half that are 1 in `b`. -/
theorem State.irqAcknowledgeHigh_cleared {s : State} {b : Byte} {n : Nat}
    (hset : s.irq.cause.getLsbD n = true)
    (hclear : (s.irqAcknowledgeHigh b).irq.cause.getLsbD n = false) :
    8 ≤ n ∧ b.getLsbD (n - 8) = true := by
  simpa [getLsbD_acknowledgeHigh, hset] using hclear

/-! ### Which instructions clear or change a part of the state -/

section
variable {s u : State} {i : Instr}

/-- Only FACTORY_RESET and SYSTEM_RESET clear a status error bit (rule R325). -/
theorem Effect.errorsKept (h : Effect s i u) (hfactory : i ≠ .scmdFactoryReset)
    (hsystem : i ≠ .scmdSystemReset) : ErrorsKept s u := by
  cases h with
  | factoryReset => exact absurd rfl hfactory
  | systemReset => exact absurd rfl hsystem
  | dataRead w => exact s.engineRead_errorsKept _
  | dataWrite w b => exact s.engineWrite_errorsKept _ b
  | copyBlock => exact s.copyBlock_errorsKept
  | _ => exact ⟨id, id⟩

/-- The instructions that clear a cause bit (rule R325, rule R332). -/
theorem Effect.cause_cleared (h : Effect s i u) {n : Nat} (hset : s.irq.cause.getLsbD n = true)
    (hclear : u.irq.cause.getLsbD n = false) :
    i = .scmdFactoryReset ∨ i = .scmdClearIrq ∨ i = .scmdSystemReset ∨
    (∃ b, i = .wrIrqCauseLow b ∧ n < 8 ∧ b.getLsbD n = true) ∨
    ∃ b, i = .wrIrqCauseHigh b ∧ 8 ≤ n ∧ b.getLsbD (n - 8) = true := by
  have kept : ¬ CauseKept s u := fun hk => by simp [hk n hset] at hclear
  cases h with
  | factoryReset => exact .inl rfl
  | clearIrq => exact .inr (.inl rfl)
  | systemReset => exact .inr (.inr (.inl rfl))
  | acknowledgeLow b =>
    exact .inr (.inr (.inr (.inl ⟨b, rfl, State.irqAcknowledgeLow_cleared hset hclear⟩)))
  | acknowledgeHigh b =>
    exact .inr (.inr (.inr (.inr ⟨b, rfl, State.irqAcknowledgeHigh_cleared hset hclear⟩)))
  | dataRead w => exact absurd (s.engineRead_causeKept _) kept
  | dataWrite w b => exact absurd (s.engineWrite_causeKept _ b) kept
  | copyBlock => exact absurd s.copyBlock_causeKept kept
  | _ => exact absurd (fun _ => id) kept

/-- The instructions that change slot `k`: those of a window that points at it, and the resets. -/
theorem Effect.slot_changed (h : Effect s i u) {k : SlotIx} (hk : u.slot k ≠ s.slot k) :
    i = .scmdResetAll ∨ i = .scmdFactoryReset ∨ i = .scmdSystemReset ∨
    ∃ w off, busAddr i.word = windowAddr w off ∧ s.activeIx w = k := by
  cases h with
  | resetAll => exact .inl rfl
  | factoryReset => exact .inr (.inl rfl)
  | systemReset => exact .inr (.inr (.inl rfl))
  | dataRead w =>
    refine .inr (.inr (.inr ⟨w, 1#4, by simp [Instr.word], ?_⟩))
    exact not_imp_comm.1 s.engineRead_slot_other hk
  | dataWrite w b =>
    refine .inr (.inr (.inr ⟨w, 1#4, by simp [Instr.word], ?_⟩))
    exact not_imp_comm.1 (s.engineWrite_slot_other b) hk
  | @setActiveSlot _ w off hi sl =>
    refine .inr (.inr (.inr ⟨w, off, hi, ?_⟩))
    exact not_imp_comm.1 (s.slot_setSlot_other _ k sl) hk
  | copyBlock => exact absurd (s.copyBlock_slot k) hk
  | _ => exact absurd rfl hk

/-- The instructions that change a byte of the store: the DATA_PORT writes and the two resets. -/
theorem Effect.memRead_changed (h : Effect s i u) {a : Nat} (ha : u.memRead a ≠ s.memRead a) :
    i = .scmdFactoryReset ∨ i = .scmdSystemReset ∨
    ∃ w b, i = .wrDataPort w b ∧ a = (s.activeSlot w).cur.toNat ∧ u.memRead a = b := by
  cases h with
  | factoryReset => exact .inl rfl
  | systemReset => exact .inr (.inl rfl)
  | dataWrite w b => exact .inr (.inr ⟨w, b, rfl, State.engineWrite_memRead_changed ha⟩)
  | dataRead w => exact absurd (s.engineRead_memRead _ a) ha
  | copyBlock => exact absurd (s.copyBlock_memRead a) ha
  | _ => exact absurd rfl ha

end

/-- A transaction that selects a row for writes is the transaction of that row's word. -/
theorem bus_eq_word {T : BusWord} {i j : Instr} (hT : decodeBus T = i) (hi : i = j)
    (hw : busRw j.word = true) : Event.bus T = .bus j.word :=
  congrArg Event.bus (eq_word_of_decodeBus (hT.trans hi) hw)

/-- Settles O55: a step is one of `Taken`, and `Effect.errorsKept` covers the transactions. -/
theorem errorStatusBitsAreSticky : Obligations.ErrorStatusBitsAreSticky := by
  intro s t e h hfactory hsystem hreset
  cases runEvent_next h with
  | bus r hT hu =>
    exact hu.errorsKept (fun hi => hfactory (bus_eq_word hT hi rfl))
      (fun hi => hsystem (bus_eq_word hT hi rfl))
  | resetInput => exact absurd rfl hreset
  | dmaMove | dmaComplete | extRaise => exact ⟨id, id⟩

/-- Settles O56: the DMA agent and the external sources only raise cause bits, and
`Effect.cause_cleared` covers the transactions. -/
theorem causeBitsAreClearedOnlyByAcknowledgeOrReset :
    Obligations.CauseBitsAreClearedOnlyByAcknowledgeOrReset := by
  intro s t e n _ h hset hclear
  have kept : ¬ CauseKept s t := fun hk => by simp [hk n hset] at hclear
  cases runEvent_next h with
  | resetInput => exact .inl rfl
  | dmaMove => exact absurd (fun _ => id) kept
  | dmaComplete => exact absurd (State.irqRaise_causeKept _ causeDmaComplete) kept
  | extRaise bits => exact absurd (s.irqRaise_causeKept bits) kept
  | bus r hT hu =>
    obtain hi | hi | hi | ⟨b, rfl, hn, hb⟩ | ⟨b, rfl, hn, hb⟩ := hu.cause_cleared hset hclear
    · exact .inr (.inl (bus_eq_word hT hi rfl))
    · exact .inr (.inr (.inl (bus_eq_word hT hi rfl)))
    · exact .inr (.inr (.inr (.inl (bus_eq_word hT hi rfl))))
    · have hword := bus_eq_word hT rfl (busRw_busWord true _ b)
      exact .inr (.inr (.inr (.inr ⟨b, .inl ⟨hn, hb, hword⟩⟩)))
    · have hword := bus_eq_word hT rfl (busRw_busWord true _ b)
      exact .inr (.inr (.inr (.inr ⟨b, .inr ⟨hn, hb, hword⟩⟩)))

/-- Settles O59: the other agents leave the slots, and `Effect.slot_changed` covers the
transactions. -/
theorem slotsChangeOnlyThroughTheirWindowsOrResets :
    Obligations.SlotsChangeOnlyThroughTheirWindowsOrResets := by
  intro s t e k h hk
  cases runEvent_next h with
  | resetInput => exact .inl rfl
  | dmaMove | dmaComplete | extRaise => exact absurd rfl hk
  | @bus T _ _ r hT hu =>
    obtain hi | hi | hi | ⟨w, off, haddr, hactive⟩ := hu.slot_changed hk
    · exact .inr (.inl (bus_eq_word hT hi rfl))
    · exact .inr (.inr (.inl (bus_eq_word hT hi rfl)))
    · exact .inr (.inr (.inr (.inl (bus_eq_word hT hi rfl))))
    · have hT' : busAddr T = windowAddr w off := (busAddr_of_decodeBus hT).trans haddr
      exact .inr (.inr (.inr (.inr ⟨T, w, off, rfl, hT', hactive⟩)))

/-- Settles O60: of the other agents only the DMA agent writes the store, and
`Effect.memRead_changed` covers the transactions. -/
theorem storeChangesOnlyByItsWriters : Obligations.StoreChangesOnlyByItsWriters := by
  intro s t e a h ha
  cases runEvent_next h with
  | resetInput => exact .inl rfl
  | dmaComplete | extRaise => exact absurd rfl ha
  | @dmaMove i x hx =>
    have hdst : x.dst.toNat + i = a := by
      by_contra hne
      exact ha (by rw [State.memRead_moveByte, if_neg hne])
    exact .inr (.inr (.inr (.inr ⟨i, x, rfl, hx, hdst.symm⟩)))
  | bus r hT hu =>
    obtain hi | hi | ⟨w, b, rfl, hcur, hbyte⟩ := hu.memRead_changed ha
    · exact .inr (.inl (bus_eq_word hT hi rfl))
    · exact .inr (.inr (.inl (bus_eq_word hT hi rfl)))
    · have hword := bus_eq_word hT rfl (busRw_busWord true _ b)
      exact .inr (.inr (.inr (.inl ⟨w, b, hword, hcur, hbyte⟩)))

/-! ### What keeps the invariant -/

/-- The invariant speaks of the parameters, the store, two status bits, the windows and the transfer
in flight: a state that agrees with one of the invariant on these is one too. -/
theorem State.Inv.of_same {s t : State} (h : s.Inv) (hcfg : t.cfg = s.cfg)
    (hstore : t.store = s.store) (hactive : t.status.dmaActive = s.status.dmaActive)
    (hready : t.status.systemReady = s.status.systemReady) (hwin : t.win = s.win)
    (hxfer : t.xfer = s.xfer) : t.Inv where
  cfg_wf := hcfg ▸ h.cfg_wf
  store_wf := hstore ▸ h.store_wf
  store_inside := by rw [hcfg, hstore]; exact h.store_inside
  active_iff := by rw [hactive, hxfer]; exact h.active_iff
  ready := hready.trans h.ready
  dead_windows := hwin ▸ h.dead_windows
  xfer_inv := by rw [hcfg, hxfer]; exact h.xfer_inv

theorem State.Inv.answer {s : State} (h : s.Inv) (r : Option Byte) : (s.answer r).Inv :=
  h.of_same rfl rfl rfl rfl rfl rfl

theorem State.Inv.setSlot {s : State} (h : s.Inv) (k : SlotIx) (sl : Slot) : (s.setSlot k sl).Inv :=
  h.of_same rfl rfl rfl rfl rfl rfl

theorem State.Inv.irqRaise {s : State} (h : s.Inv) (bits : Half) : (s.irqRaise bits).Inv :=
  h.of_same rfl rfl rfl rfl rfl rfl

theorem State.Inv.raiseMemoryError {s : State} (h : s.Inv) : s.raiseMemoryError.Inv :=
  h.of_same rfl rfl rfl rfl rfl rfl

theorem State.Inv.raiseDmaError {s : State} (h : s.Inv) : s.raiseDmaError.Inv :=
  h.of_same rfl rfl rfl rfl rfl rfl

/-- The windows that a transaction can write are the wired ones, 0 to 3 (rule R31). -/
theorem State.Inv.setWindow {s : State} (h : s.Inv) (w : WindowNo) (x : Window) :
    (s.setWindow w x).Inv where
  cfg_wf := h.cfg_wf
  store_wf := h.store_wf
  store_inside := h.store_inside
  active_iff := h.active_iff
  ready := h.ready
  dead_windows j hj := by
    have hw : windowIx w ≠ j := by
      rintro rfl
      exact absurd w.isLt (Nat.not_lt.2 hj)
    rw [State.win_setWindow, if_neg hw]
    exact h.dead_windows j hj
  xfer_inv := h.xfer_inv

/-- A byte stored inside CAPACITY keeps the store inside CAPACITY. -/
theorem State.Inv.memWrite {s : State} (h : s.Inv) {a : Nat} (ha : a < s.cfg.capacity) (v : Byte) :
    (s.memWrite a v).Inv where
  cfg_wf := h.cfg_wf
  store_wf := Memory.wf_write _ _ _ h.store_wf
  store_inside c hc := by
    obtain rfl | hc := Memory.mem_write _ _ _ c hc
    · exact ha
    · exact h.store_inside c hc
  active_iff := h.active_iff
  ready := h.ready
  dead_windows := h.dead_windows
  xfer_inv := h.xfer_inv

theorem State.Inv.engineRead {s : State} (h : s.Inv) (k : SlotIx) : (s.engineRead k).Inv := by
  obtain ⟨-, hr, -⟩ | ⟨-, hr, -⟩ := s.engineRead_cases k <;> rw [hr]
  · exact h.setSlot k _
  · exact h.raiseMemoryError

theorem State.Inv.engineWrite {s : State} (h : s.Inv) (k : SlotIx) (b : Byte) :
    (s.engineWrite k b).Inv := by
  obtain ⟨hcur, hw⟩ | ⟨-, hw⟩ := s.engineWrite_cases k b <;> rw [hw]
  · exact (h.memWrite hcur b).setSlot k _
  · exact h.raiseMemoryError

/-- A transfer right after its acceptance: every index is still to do (rule R214). -/
theorem Xfer.Inv.accepted {capacity : Nat} {src dst : Addr} {n : Half} (hpos : 1 ≤ n.toNat)
    (hsrc : src.toNat + n.toNat ≤ capacity) (hdst : dst.toNat + n.toNat ≤ capacity) :
    Xfer.Inv capacity { src := src, dst := dst, count := n, todo := List.range n.toNat } where
  count_pos := hpos
  src_inside := hsrc
  dst_inside := hdst
  todo_rising := List.pairwise_lt_range
  todo_below _ hi := List.mem_range.1 hi

/-- An index taken out of `todo` leaves a rising list of indices below the count. -/
theorem Xfer.Inv.erase {capacity : Nat} {x : Xfer} (h : x.Inv capacity) (i : Nat) :
    Xfer.Inv capacity { x with todo := x.todo.erase i } where
  count_pos := h.count_pos
  src_inside := h.src_inside
  dst_inside := h.dst_inside
  todo_rising := h.todo_rising.erase i
  todo_below j hj := h.todo_below j (List.mem_of_mem_erase hj)

theorem State.Inv.acceptCopy {s : State} (h : s.Inv) {src dst : Addr} {n : Half}
    (hpos : 1 ≤ n.toNat) (hsrc : src.toNat + n.toNat ≤ s.cfg.capacity)
    (hdst : dst.toNat + n.toNat ≤ s.cfg.capacity) : (s.acceptCopy src dst n).Inv where
  cfg_wf := h.cfg_wf
  store_wf := h.store_wf
  store_inside := h.store_inside
  active_iff := rfl
  ready := h.ready
  dead_windows := h.dead_windows
  xfer_inv _ hx := by
    cases hx
    exact .accepted hpos hsrc hdst

theorem State.Inv.copyBlock {s : State} (h : s.Inv) : s.copyBlock.Inv := by
  obtain hc | hc | hc | ⟨hpos, hsrc, hdst, hc⟩ := s.copyBlock_outcomes <;> rw [hc]
  · exact h
  · exact h.raiseDmaError
  · exact h.raiseDmaError.raiseMemoryError
  · exact h.acceptCopy hpos hsrc hdst

theorem State.Inv.moveByte {s : State} (h : s.Inv) {x : Xfer} {i : Nat} (hx : s.xfer = some x)
    (hdst : x.dst.toNat + i < s.cfg.capacity) : (s.moveByte x i).Inv where
  cfg_wf := h.cfg_wf
  store_wf := (h.memWrite hdst _).store_wf
  store_inside := (h.memWrite hdst _).store_inside
  active_iff := by simpa [hx] using h.active_iff
  ready := h.ready
  dead_windows := h.dead_windows
  xfer_inv _ hy := by
    cases hy
    exact (h.xfer_inv x hx).erase i

theorem State.Inv.completeTransfer {s : State} (h : s.Inv) : s.completeTransfer.Inv where
  cfg_wf := h.cfg_wf
  store_wf := h.store_wf
  store_inside := h.store_inside
  active_iff := rfl
  ready := h.ready
  dead_windows := h.dead_windows
  xfer_inv _ hx := by cases hx

/-- `ENGINE_INIT()` gives the invariant from its parameters and its dead windows alone (rule R361). -/
theorem State.engineInit_inv {s : State} (hcfg : s.cfg.wf)
    (hwin : ∀ j : Fin 8, 4 ≤ j.val → s.win[j] = initialWindow) : s.engineInit.Inv where
  cfg_wf := hcfg
  store_wf := Memory.wf_nil
  store_inside _ hc := by cases hc
  active_iff := rfl
  ready := rfl
  dead_windows := hwin
  xfer_inv _ hx := by cases hx

theorem initialWindows_get (j : Fin 8) : (Vector.replicate 8 initialWindow)[j] = initialWindow := by
  simp

theorem State.hardReset_inv {s : State} (hcfg : s.cfg.wf) : s.hardReset.Inv :=
  State.engineInit_inv hcfg fun j _ => initialWindows_get j

/-- Every effect of an instruction keeps the invariant. -/
theorem Effect.inv {s u : State} {i : Instr} (h : Effect s i u) (hs : s.Inv) : u.Inv := by
  cases h with
  | selectSlot w b | selectField w b => exact hs.setWindow w _
  | dataRead w => exact hs.engineRead _
  | dataWrite w b => exact hs.engineWrite _ b
  | copyBlock => exact hs.copyBlock
  | factoryReset =>
    exact (State.engineInit_inv hs.cfg_wf hs.dead_windows).of_same rfl rfl rfl rfl rfl rfl
  | systemReset => exact State.hardReset_inv hs.cfg_wf
  | unchanged => exact hs
  | _ => exact hs.of_same rfl rfl rfl rfl rfl rfl

/-- The step of every agent keeps the invariant. -/
theorem Taken.inv {s t : State} {e : Event} (h : Taken s e t) (hs : s.Inv) : t.Inv := by
  cases h with
  | bus r _ hu => exact (hu.inv hs).answer r
  | dmaMove hx _ _ hdst => exact hs.moveByte hx hdst
  | dmaComplete => exact hs.completeTransfer
  | extRaise bits => exact hs.irqRaise bits
  | resetInput => exact (State.hardReset_inv hs.cfg_wf).answer none

/-- Settles O53: a step is the idle one or the step of the schedule's first agent, which
`Taken.inv` covers. -/
theorem everyStepKeepsTheInvariant : Obligations.EveryStepKeepsTheInvariant := by
  intro s t hs h
  cases hsched : s.schedule with
  | nil =>
    rw [runNext_nil hsched] at h
    cases h
    exact hs
  | cons e rest =>
    rw [runNext_cons hsched] at h
    exact (runEvent_next h).inv (hs.of_same rfl rfl rfl rfl rfl rfl)

/-! ### The reset state -/

/-- The state after reset meets the invariant, whatever admissible parameters it has. -/
theorem State.initial_inv {c : Config} (h : c.wf) : (State.initial c).Inv :=
  State.hardReset_inv (s := State.initial c) h

theorem testLayoutEntry_of_lt {k : Nat} (h : k < 128) : testLayoutEntry k =
    ⟨.fixed 0x100, BitVec.ofNat 24 (k * 0x100), BitVec.ofNat 24 (k * 0x100 + 0x100), 0x01#8, 0x05#8⟩ := by
  simp [testLayoutEntry, h]

theorem testLayoutEntry_of_ge {k : Nat} (h : 128 ≤ k) : testLayoutEntry k =
    ⟨.user 0x100, BitVec.ofNat 24 (k * 0x100), 0x000000#24, 0x01#8, 0x01#8⟩ := by
  simp [testLayoutEntry, Nat.not_lt.2 h]

/-- Each row of TESTCFG's layout meets rule R363. -/
theorem testLayoutEntry_wf {k : Nat} (hk : k < 256) : (testLayoutEntry k).wf testcfg = true := by
  obtain h | h := Nat.lt_or_ge k 128
  · have hlim : (k * 256 + 256) % 16777216 = k * 256 % 16777216 + 256 := by omega
    simp [testLayoutEntry_of_lt h, LayoutEntry.wf, show testcfg.wrapBit = 2 from rfl, hlim]
  · simp [testLayoutEntry_of_ge h, LayoutEntry.wf, show testcfg.wrapBit = 2 from rfl,
      show testcfg.autoStepBit = 0 from rfl]

theorem testLayoutEntry_isUser (k : Nat) : (testLayoutEntry k).isUser = decide (128 ≤ k) := by
  obtain h | h := Nat.lt_or_ge k 128
  · simp [testLayoutEntry_of_lt h, LayoutEntry.isUser, h]
  · simp [testLayoutEntry_of_ge h, LayoutEntry.isUser, h]

theorem testLayoutEntry_regionEnd (k : Nat) :
    (testLayoutEntry k).regionEnd = (testLayoutEntry k).defaultAddress.toNat + 0x100 := by
  obtain h | h := Nat.lt_or_ge k 128
  · simp [testLayoutEntry_of_lt h, LayoutEntry.regionEnd, SlotRole.size]
  · simp [testLayoutEntry_of_ge h, LayoutEntry.regionEnd, SlotRole.size]

/-- The regions of TESTCFG lie one after another. -/
theorem testLayoutEntry_disjoint {i j : Nat} (hij : i < j) (hj : j < 256) :
    (testLayoutEntry i).disjoint (testLayoutEntry j) = true := by
  refine LayoutEntry.disjoint_iff.2 (.inr (.inr (.inl ?_)))
  rw [testLayoutEntry_regionEnd]
  simp only [testLayoutEntry, BitVec.toNat_ofNat]
  omega

theorem countP_le_range_add (m n : Nat) :
    (List.range (m + n)).countP (fun k => decide (m ≤ k)) = n := by
  rw [List.range_add, List.countP_append, List.countP_map, List.countP_eq_zero.2 (by simp),
    List.countP_eq_length.2 (by simp)]
  simp

/-- The parameters of the reset state are admissible (rule R364). -/
theorem testcfg_admissible : testcfg.wf := by
  refine ⟨by decide, Config.layoutWf_of_rows (f := testLayoutEntry) rfl
    (fun _ => testLayoutEntry_wf) ?_ (fun _ _ => testLayoutEntry_disjoint)⟩
  rw [List.countP_map]
  simp only [Function.comp_def, testLayoutEntry_isUser]
  exact countP_le_range_add 128 128

/-- Settles O52: initialisation gives the invariant, and TESTCFG is admissible. -/
theorem invariantHoldsAtReset : Obligations.InvariantHoldsAtReset :=
  ⟨fun _ => State.initial_inv, State.initial_inv testcfg_admissible⟩

/-- Settles O50: the slots by the law of a slot after initialisation, the rest by the definitions of
the reset values. -/
theorem resetStateHoldsTheStatedValues : Obligations.ResetStateHoldsTheStatedValues :=
  ⟨rfl, initialWindows_get, slot_factory State.reset rfl, rfl, rfl, fun _ => rfl, rfl, rfl⟩

/-! ### The IRQ line and DEVICE_STATUS -/

/-- A word is not 0 exactly when a bit of it is set. -/
theorem ne_zero_iff_getLsbD (h : Half) : h ≠ 0x0000#16 ↔ ∃ n < 16, h.getLsbD n = true := by
  rw [ne_eq, BitVec.zero_iff_eq_false]
  constructor
  · intro hne
    obtain ⟨n, hn⟩ := not_forall.1 hne
    have hset : h.getLsbD n = true := by simpa using hn
    exact ⟨n, BitVec.lt_of_getLsbD hset, hset⟩
  · rintro ⟨n, -, hset⟩ hz
    simp [hz n] at hset

/-- Settles O34: the line is the enable and `cause & mask ≠ 0`, read bit by bit. -/
theorem irqLineFollowsCauseMaskAndEnable : Obligations.IrqLineFollowsCauseMaskAndEnable := by
  intro s
  simp only [State.irqLine, Irq.pending, Bool.and_eq_true, bne_iff_ne, ne_zero_iff_getLsbD,
    BitVec.getLsbD_and]

/-- The bits of `bitAt n v`. -/
theorem getLsbD_bitAt (n m : Nat) (v : Bool) :
    (bitAt n v).getLsbD m = (v && decide (m < 8) && decide (m = n)) := by
  cases v
  · simp [bitAt]
  · simp only [bitAt, if_true, BitVec.getLsbD_shiftLeft, BitVec.getLsbD_one]
    grind

/-- A bit of the DEVICE_STATUS byte is set when one of the five conditions with that place holds. -/
theorem State.getLsbD_deviceStatus (s : State) (m : Fin 8) :
    s.deviceStatus.getLsbD m =
      (s.status.systemReady && decide (m = 7) || s.status.dmaActive && decide (m = 6) ||
        s.status.dmaError && decide (m = s.cfg.statusDmaErrorBit) ||
        s.status.memoryError && decide (m = 2) || s.irqLine && decide (m = 1)) := by
  simp only [State.deviceStatus, BitVec.getLsbD_or, getLsbD_bitAt, m.isLt, decide_true,
    Bool.and_true, Fin.ext_iff]
  rfl

/-- A read's reply changes no part of the state. -/
theorem State.reply_onlyChanges (s : State) (v : Byte) : OnlyChanges [] s (s.reply v) :=
  ⟨rfl, rfl, fun p _ => p.same_of_fields (by cases p <;> rfl)⟩

/-- Settles O30: the place of DMA_ERROR is one of 0, 3, 4 and 5 under admissible numbers, so that the
five bits lie apart. -/
theorem deviceStatusReadComposesItsBits : Obligations.DeviceStatusReadComposesItsBits := by
  intro s ⟨_, _, _, _, _, hplace⟩
  have bit := s.getLsbD_deviceStatus
  have apart : ∀ p : Fin 8, p = 0 ∨ p = 3 ∨ p = 4 ∨ p = 5 → p ≠ 7 ∧ p ≠ 6 ∧ p ≠ 2 ∧ p ≠ 1 := by
    decide
  obtain ⟨h7, h6, h2, h1⟩ := apart _ hplace
  refine ⟨_, s.deviceStatus, rfl, rfl, s.reply_onlyChanges _, (bit 7).trans ?_, (bit 6).trans ?_,
    (bit _).trans ?_, (bit 2).trans ?_, (bit 1).trans ?_, fun n hn hne => (bit n).trans ?_⟩
  · simp [h7.symm]
  · simp [h6.symm]
  · simp [h7, h6, h2, h1]
  · simp [h2.symm]
  · simp [h1.symm, State.irqLine, Irq.pending]
  · obtain ⟨n7, n6, n2, n1⟩ := apart n hn
    simp [hne, n7, n6, n2, n1]

end Sys2Proof.Machine

namespace Sys2Proof

/-! ### A decoded row is in its operand range (rule R104, rule R105, rule R106) -/

section
variable (ids : CfgIds)

theorem decodeWindowRead_wf (w : WindowNo) (off : BitVec 4) :
    (decodeWindowRead w off).wf ids = true := by
  unfold decodeWindowRead
  split_ifs <;> simp only [Instr.wf, decide_eq_true_eq]
  bv_omega

theorem decodeWindowCommand_wf (w : WindowNo) (c : Byte) :
    (decodeWindowCommand w c).wf ids = true := by
  unfold decodeWindowCommand
  split_ifs <;> simp only [Instr.wf, decide_eq_true_eq]
  bv_omega

theorem decodeWindowWrite_wf (w : WindowNo) (off : BitVec 4) (b : Byte) :
    (decodeWindowWrite w off b).wf ids = true := by
  by_cases hcmd : off = 4#4
  · subst hcmd
    exact decodeWindowCommand_wf ids w b
  · unfold decodeWindowWrite
    split_ifs <;> simp only [Instr.wf, decide_eq_true_eq]
    bv_omega

/-- A register number that the register map of rule R103 does not name is reserved. -/
theorem sregReserved_of_unnamed {sreg : BitVec 7} (h70 : sreg ≠ 0x70#7) (h71 : sreg ≠ 0x71#7)
    (h72 : sreg ≠ 0x72#7) (h73 : sreg ≠ 0x73#7) (h74 : sreg ≠ 0x74#7) (h75 : sreg ≠ 0x75#7)
    (h7F : sreg ≠ 0x7F#7) : sregReserved sreg = true := by
  simp only [sregReserved, Bool.or_eq_true, Bool.and_eq_true, decide_eq_true_eq]
  bv_omega

theorem decodeSharedRead_wf (sreg : BitVec 7) : (decodeSharedRead sreg).wf ids = true := by
  unfold decodeSharedRead
  split_ifs <;> simp only [Instr.wf]
  exact sregReserved_of_unnamed ‹_› ‹_› ‹_› ‹_› ‹_› ‹_› ‹_›

theorem decodeSharedCommand_wf (c : Byte) : (decodeSharedCommand c).wf ids = true := by
  unfold decodeSharedCommand
  split_ifs <;> simp only [Instr.wf, decide_eq_true_eq]
  bv_omega

theorem decodeSharedWrite_wf (sreg : BitVec 7) (b : Byte) :
    (decodeSharedWrite sreg b).wf ids = true := by
  by_cases hcmd : sreg = 0x7F#7
  · subst hcmd
    exact decodeSharedCommand_wf ids b
  · unfold decodeSharedWrite
    split_ifs <;> simp only [Instr.wf]
    exact sregReserved_of_unnamed ‹_› ‹_› ‹_› ‹_› ‹_› ‹_› ‹_›

/-- Every transaction word selects a well-formed instruction (rule R112). -/
theorem decodeBus_wf (T : BusWord) : (decodeBus T).wf ids = true := by
  obtain ⟨rw, addr, data, rfl⟩ := exists_busWord T
  rw [decodeBus_busWord]
  obtain ⟨w, off, rfl⟩ | ⟨low, rfl⟩ | ⟨sreg, rfl⟩ := addr_cases addr
  · rw [decodeTransaction_window]
    cases rw
    · exact decodeWindowRead_wf ids w off
    · exact decodeWindowWrite_wf ids w off data
  · rw [decodeTransaction_reservedWindow]
    cases rw <;> rfl
  · rw [decodeTransaction_shared]
    cases rw
    · exact decodeSharedRead_wf ids sreg
    · exact decodeSharedWrite_wf ids sreg data

end

/-! ### The direction of a decoded row -/

/-- The row that a word selects has the word's direction. -/
@[simp] theorem busRw_word_decodeBus (T : BusWord) : busRw (decodeBus T).word = busRw T := by
  rw [word_decodeBus, busRw_canonicalWord]

/-- A CFG row is consulted by a read of CFG_DATA exactly when its access is `get`. -/
theorem busRw_cfgDataWord_eq_false {w : WindowNo} {a : CfgAccess} :
    busRw (cfgDataWord w a) = false ↔ a = .get := by
  cases a <;> simp [cfgDataWord]

theorem busRw_cfgDataWord_eq_true {w : WindowNo} {a : CfgAccess} :
    busRw (cfgDataWord w a) = true ↔ ∃ b, a = .set b := by
  cases a <;> simp [cfgDataWord]

end Sys2Proof

namespace Sys2Proof.Machine

/-- Settles O7: a word's bytes decode to its row alone, which is well formed, and a step takes the
first event of the schedule. -/
theorem stepRunsTheDecodedInstruction : Obligations.StepRunsTheDecodedInstruction := by
  refine fun s rest => ⟨fun T hsched => ⟨fun i hi => ?_, _, decode_wordBytes _ T⟩,
    fun _ => runNext_cons, runNext_nil⟩
  rw [decode_wordBytes] at hi
  cases hi
  exact ⟨decodeBus_wf _ T, runNext_cons hsched⟩

/-! ### What a read and a write leave (rule R77, rule R78) -/

/-- From `s` the outcome of `f` is `s` with some byte on `bus_rdata`, and from there the same again. -/
def PureRead (f : State → Result) (s : State) : Prop :=
  ∃ v, f s = .next (s.reply v) ∧ f (s.reply v) = .next (s.reply v)

/-- A read of CFG_DATA has no side effect, whichever row the field register selects (rule R150). -/
theorem consultCfgRow_get_pure (w : WindowNo) (s : State) : PureRead (consultCfgRow w .get) s := by
  have hfield (v : Byte) : (s.reply v).cfg.cfgIds.fieldOf ((s.reply v).window w).field =
      s.cfg.cfgIds.fieldOf (s.window w).field := rfl
  simp only [PureRead, consultCfgRow, hfield]
  cases s.cfg.cfgIds.fieldOf (s.window w).field with
  | none => exact ⟨_, rfl, rfl⟩
  | some x => cases x <;> exact ⟨_, rfl, rfl⟩

/-- A write of CFG_DATA ends without a byte, whichever row the field register selects. -/
theorem consultCfgRow_set_acknowledges (w : WindowNo) (b : Byte) (s : State) :
    ∃ u : State, consultCfgRow w (.set b) s = .next u.acknowledge := by
  unfold consultCfgRow
  cases s.cfg.cfgIds.fieldOf (s.window w).field with
  | none => exact ⟨_, rfl⟩
  | some x => cases x <;> exact ⟨_, rfl⟩

section
variable {i : Instr}

/-- Every read but that of a DATA_PORT is pure. -/
theorem exec_read_cases (hread : busRw i.word = false) (s : State) :
    (∃ w, i = .rdDataPort w) ∨ PureRead (exec i) s := by
  cases i with
  | rdDataPort w => exact .inl ⟨w, rfl⟩
  | rdCfgData w => exact .inr (consultCfgRow_get_pure w s)
  | rdIdxSelect _ | rdCfgFieldSelect _ | rdCommand _ | rdWReserved _ _ | rdWinReserved _
  | rdDeviceStatus | rdIrqCauseLow | rdIrqCauseHigh | rdIrqMaskLow | rdIrqMaskHigh | rdIrqEnable
  | rdSharedCommand | rdSReserved _ => exact .inr ⟨_, rfl, rfl⟩
  | cfgCurL _ a | cfgCurM _ a | cfgCurH _ a | cfgDefL _ a | cfgDefM _ a | cfgDefH _ a
  | cfgLimL _ a | cfgLimM _ a | cfgLimH _ a | cfgStep _ a | cfgFlags _ a | cfgDmaSrc _ a
  | cfgDmaDst _ a | cfgDmaCountL _ a | cfgDmaCountH _ a | cfgUnknown _ a _ =>
    obtain rfl := busRw_cfgDataWord_eq_false.1 hread
    exact .inr ⟨_, rfl, rfl⟩
  | _ => simp [Instr.word] at hread

/-- A read ends with a byte on `bus_rdata`. -/
theorem exec_read_replies (hread : busRw i.word = false) (s : State) :
    ∃ (u : State) (v : Byte), exec i s = .next (u.reply v) := by
  obtain ⟨w, rfl⟩ | ⟨v, h, -⟩ := exec_read_cases hread s
  · exact ⟨_, _, rfl⟩
  · exact ⟨s, v, h⟩

/-- A write ends with no byte on `bus_rdata`. -/
theorem exec_write_acknowledges (hwrite : busRw i.word = true) (s : State) :
    ∃ u : State, exec i s = .next u.acknowledge := by
  cases i with
  | wrCfgData w b => exact consultCfgRow_set_acknowledges w b s
  | cfgCurL _ a | cfgCurM _ a | cfgCurH _ a | cfgDefL _ a | cfgDefM _ a | cfgDefH _ a
  | cfgLimL _ a | cfgLimM _ a | cfgLimH _ a | cfgStep _ a | cfgFlags _ a | cfgDmaSrc _ a
  | cfgDmaDst _ a | cfgDmaCountL _ a | cfgDmaCountH _ a | cfgUnknown _ a _ =>
    obtain ⟨b, rfl⟩ := busRw_cfgDataWord_eq_true.1 hwrite
    exact ⟨_, rfl⟩
  | rdIdxSelect _ | rdDataPort _ | rdCfgFieldSelect _ | rdCfgData _ | rdCommand _ | rdWReserved _ _
  | rdWinReserved _ | rdDeviceStatus | rdIrqCauseLow | rdIrqCauseHigh | rdIrqMaskLow
  | rdIrqMaskHigh | rdIrqEnable | rdSharedCommand | rdSReserved _ => simp [Instr.word] at hwrite
  | _ => exact ⟨_, rfl⟩

/-- Every effect of an instruction keeps the parameters and the agents' coming steps. -/
theorem Effect.cfg_schedule {s u : State} (h : Effect s i u) :
    u.cfg = s.cfg ∧ u.schedule = s.schedule := by
  cases h with
  | dataRead w => obtain ⟨-, h, -⟩ | ⟨-, h, -⟩ := s.engineRead_cases (s.activeIx w) <;> simp [h]
  | dataWrite w b => obtain ⟨-, h⟩ | ⟨-, h⟩ := s.engineWrite_cases (s.activeIx w) b <;> simp [h]
  | copyBlock => obtain h | h | h | ⟨-, -, -, h⟩ := s.copyBlock_outcomes <;> simp [h]
  | _ => exact ⟨rfl, rfl⟩

theorem exec_cfg_schedule {s t : State} (h : exec i s = .next t) :
    t.cfg = s.cfg ∧ t.schedule = s.schedule := by
  obtain ⟨u, r, hu, hexec⟩ := exec_completes i s
  cases hexec.symm.trans h
  exact hu.cfg_schedule

end

/-- Settles O9: by the direction of the word, which is that of the row it selects. -/
theorem everyTransactionCompletes : Obligations.EveryTransactionCompletes := by
  intro s T
  cases hrw : busRw T with
  | false =>
    obtain ⟨u, v, h⟩ := exec_read_replies ((busRw_word_decodeBus T).trans hrw) s
    obtain ⟨hcfg, hsched⟩ := exec_cfg_schedule h
    exact ⟨u.reply v, h, hcfg, hsched, fun _ => ⟨v, rfl⟩, nofun⟩
  | true =>
    obtain ⟨u, h⟩ := exec_write_acknowledges ((busRw_word_decodeBus T).trans hrw) s
    obtain ⟨hcfg, hsched⟩ := exec_cfg_schedule h
    exact ⟨u.acknowledge, h, hcfg, hsched, nofun, fun _ => rfl⟩

/-- Settles O10: a word that selects the DATA_PORT's row has its address; every other read is pure. -/
theorem onlyDataPortReadsHaveSideEffects : Obligations.OnlyDataPortReadsHaveSideEffects := by
  intro s T hread hport
  obtain ⟨w, hi⟩ | ⟨v, h, hagain⟩ := exec_read_cases ((busRw_word_decodeBus T).trans hread) s
  · have haddr : busAddr T = windowAddr w 1#4 := (busAddr_of_decodeBus hi).trans (busAddr_busWord ..)
    exact absurd haddr (hport w)
  · exact ⟨s.reply v, v, h, rfl, s.reply_onlyChanges v, hagain⟩

end Sys2Proof.Machine

namespace Sys2Proof

/-! ### The row that the word of an instruction selects (rule R112, rule R114) -/

theorem decodeBus_windowAddr (rw : Bool) (w : WindowNo) (off : BitVec 4) (data : Byte) :
    decodeBus (busWord rw (windowAddr w off) data) =
      if rw then decodeWindowWrite w off data else decodeWindowRead w off := by
  rw [decodeBus_busWord, decodeTransaction_window]

theorem decodeBus_reservedWindowAddr (rw : Bool) (low : BitVec 6) (data : Byte) :
    decodeBus (busWord rw (reservedWindowAddr low) data) =
      if rw then .wrWinReserved low data else .rdWinReserved low := by
  rw [decodeBus_busWord, decodeTransaction_reservedWindow]

theorem decodeBus_sharedAddr (rw : Bool) (sreg : BitVec 7) (data : Byte) :
    decodeBus (busWord rw (sharedAddr sreg) data) =
      if rw then decodeSharedWrite sreg data else decodeSharedRead sreg := by
  rw [decodeBus_busWord, decodeTransaction_shared]

/-- The offsets from 5 on name no register of a window (rule R104). -/
theorem decodeWindowRead_reserved (w : WindowNo) {off : BitVec 4} (h : 5 ≤ off.toNat) :
    decodeWindowRead w off = .rdWReserved w off := by
  unfold decodeWindowRead
  iterate 5 rw [if_neg (by bv_omega)]

theorem decodeWindowWrite_reserved (w : WindowNo) {off : BitVec 4} (b : Byte)
    (h : 5 ≤ off.toNat) : decodeWindowWrite w off b = .wrWReserved w off b := by
  unfold decodeWindowWrite
  iterate 5 rw [if_neg (by bv_omega)]

/-- The codes from 4 on are no window commands (rule R105). -/
theorem decodeWindowCommand_unknown (w : WindowNo) {c : Byte} (h : 4 ≤ c.toNat) :
    decodeWindowCommand w c = .wcmdUnknown w c := by
  unfold decodeWindowCommand
  iterate 4 rw [if_neg (by bv_omega)]

/-- The codes from 6 on are no shared commands (rule R106). -/
theorem decodeSharedCommand_unknown {c : Byte} (h : 6 ≤ c.toNat) :
    decodeSharedCommand c = .scmdUnknown c := by
  unfold decodeSharedCommand
  iterate 6 rw [if_neg (by bv_omega)]

/-- A reserved register number is none that the register map of rule R103 names. -/
theorem sregReserved_iff {sreg : BitVec 7} :
    sregReserved sreg = true ↔ sreg.toNat < 0x70 ∨ 0x76 ≤ sreg.toNat ∧ sreg.toNat < 0x7F := by
  simp [sregReserved]

theorem decodeSharedRead_reserved {sreg : BitVec 7} (h : sregReserved sreg = true) :
    decodeSharedRead sreg = .rdSReserved sreg := by
  rw [sregReserved_iff] at h
  unfold decodeSharedRead
  iterate 7 rw [if_neg (by bv_omega)]

theorem decodeSharedWrite_reserved {sreg : BitVec 7} (b : Byte) (h : sregReserved sreg = true) :
    decodeSharedWrite sreg b = .wrSReserved sreg b := by
  rw [sregReserved_iff] at h
  unfold decodeSharedWrite
  iterate 7 rw [if_neg (by bv_omega)]

/-- The word of a well-formed BUS row selects that row (rule R112). -/
theorem decodeBus_word {ids : CfgIds} {i : Instr} (hwf : i.wf ids = true)
    (hbus : i.fieldId ids = none) : decodeBus i.word = i := by
  cases i with
  | rdIdxSelect w | rdDataPort w | rdCfgFieldSelect w | rdCfgData w | rdCommand w =>
    exact decodeBus_windowAddr false w _ _
  | wrIdxSelect w b | wrDataPort w b | wrCfgFieldSelect w b | wrCfgData w b =>
    exact decodeBus_windowAddr true w _ b
  | wcmdNop w | wcmdResetIndex w | wcmdSetDefaultToAddr w | wcmdSetLimitToAddr w =>
    exact decodeBus_windowAddr true w 4#4 _
  | wcmdUnknown w c =>
    exact (decodeBus_windowAddr true w 4#4 c).trans
      (decodeWindowCommand_unknown w (of_decide_eq_true hwf))
  | rdWReserved w off =>
    exact (decodeBus_windowAddr false w off _).trans
      (decodeWindowRead_reserved w (of_decide_eq_true hwf))
  | wrWReserved w off b =>
    exact (decodeBus_windowAddr true w off b).trans
      (decodeWindowWrite_reserved w b (of_decide_eq_true hwf))
  | rdWinReserved low => exact decodeBus_reservedWindowAddr false low _
  | wrWinReserved low b => exact decodeBus_reservedWindowAddr true low b
  | rdDeviceStatus => exact decodeBus_sharedAddr false 0x70#7 _
  | rdIrqCauseLow => exact decodeBus_sharedAddr false 0x71#7 _
  | rdIrqCauseHigh => exact decodeBus_sharedAddr false 0x72#7 _
  | rdIrqMaskLow => exact decodeBus_sharedAddr false 0x73#7 _
  | rdIrqMaskHigh => exact decodeBus_sharedAddr false 0x74#7 _
  | rdIrqEnable => exact decodeBus_sharedAddr false 0x75#7 _
  | rdSharedCommand => exact decodeBus_sharedAddr false 0x7F#7 _
  | wrDeviceStatus b => exact decodeBus_sharedAddr true 0x70#7 b
  | wrIrqCauseLow b => exact decodeBus_sharedAddr true 0x71#7 b
  | wrIrqCauseHigh b => exact decodeBus_sharedAddr true 0x72#7 b
  | wrIrqMaskLow b => exact decodeBus_sharedAddr true 0x73#7 b
  | wrIrqMaskHigh b => exact decodeBus_sharedAddr true 0x74#7 b
  | wrIrqEnable b => exact decodeBus_sharedAddr true 0x75#7 b
  | scmdNop | scmdResetAll | scmdFactoryReset | scmdClearIrq | scmdCopyBlock | scmdSystemReset =>
    exact decodeBus_sharedAddr true 0x7F#7 _
  | scmdUnknown c =>
    exact (decodeBus_sharedAddr true 0x7F#7 c).trans
      (decodeSharedCommand_unknown (of_decide_eq_true hwf))
  | rdSReserved sreg =>
    exact (decodeBus_sharedAddr false sreg _).trans (decodeSharedRead_reserved hwf)
  | wrSReserved sreg b =>
    exact (decodeBus_sharedAddr true sreg b).trans (decodeSharedWrite_reserved b hwf)
  | _ => cases hbus

/-! ### The CFG row of a configuration field (rule R107, rule R113) -/

/-- The CFG row of a field, consulted through window `w` by the access `a`. -/
def CfgField.row (w : WindowNo) (a : CfgAccess) : CfgField → Instr
  | .curL => .cfgCurL w a
  | .curM => .cfgCurM w a
  | .curH => .cfgCurH w a
  | .defL => .cfgDefL w a
  | .defM => .cfgDefM w a
  | .defH => .cfgDefH w a
  | .limL => .cfgLimL w a
  | .limM => .cfgLimM w a
  | .limH => .cfgLimH w a
  | .step => .cfgStep w a
  | .flags => .cfgFlags w a
  | .dmaSrc => .cfgDmaSrc w a
  | .dmaDst => .cfgDmaDst w a
  | .dmaCountL => .cfgDmaCountL w a
  | .dmaCountH => .cfgDmaCountH w a

/-- An id that names a field selects the field's row. -/
theorem decodeCfg_of_fieldOf {ids : CfgIds} {f : Byte} {x : CfgField} (w : WindowNo) (a : CfgAccess)
    (h : ids.fieldOf f = some x) : decodeCfg ids w a f = x.row w a := by
  rw [decodeCfg, h]
  cases x <;> rfl

/-- An id that names no field selects the row CFG.UNKNOWN (rule R166). -/
theorem decodeCfg_of_fieldOf_none {ids : CfgIds} {f : Byte} (w : WindowNo) (a : CfgAccess)
    (h : ids.fieldOf f = none) : decodeCfg ids w a f = .cfgUnknown w a f := by
  rw [decodeCfg, h]

/-- A number that CFG_ID does not assign names no field (rule R166). -/
theorem fieldOf_eq_none_iff_notMem {ids : CfgIds} {f : Byte} :
    ids.fieldOf f = none ↔ f ∉ CfgField.all.map ids.idOf := by
  simp [CfgIds.fieldOf, List.find?_eq_none]

theorem decodeCfgWord_cfgDataWord (ids : CfgIds) (w : WindowNo) (a : CfgAccess) (f : Byte) :
    decodeCfgWord ids (cfgDataWord w a) f = .ok (decodeCfg ids w a f) := by
  cases a with
  | get =>
    have hbus : decodeBus (cfgDataWord w .get) = .rdCfgData w := decodeBus_windowAddr false w 3#4 _
    rw [decodeCfgWord, hbus]
  | set b =>
    have hbus : decodeBus (cfgDataWord w (.set b)) = .wrCfgData w b :=
      decodeBus_windowAddr true w 3#4 b
    rw [decodeCfgWord, hbus]

/-- The word and the field id of a well-formed CFG row select that row (rule R107, rule R113). -/
theorem decodeCfgWord_word {ids : CfgIds} {i : Instr} {f : Byte} (hids : ids.wf)
    (hwf : i.wf ids = true) (hf : i.fieldId ids = some f) :
    decodeCfgWord ids i.word f = .ok i := by
  have row (w : WindowNo) (a : CfgAccess) (x : CfgField) :
      decodeCfgWord ids (cfgDataWord w a) (ids.idOf x) = .ok (x.row w a) := by
    rw [decodeCfgWord_cfgDataWord, decodeCfg_of_fieldOf w a (fieldOf_idOf ids hids x)]
  cases i with
  | cfgCurL w a => cases hf; exact row w a .curL
  | cfgCurM w a => cases hf; exact row w a .curM
  | cfgCurH w a => cases hf; exact row w a .curH
  | cfgDefL w a => cases hf; exact row w a .defL
  | cfgDefM w a => cases hf; exact row w a .defM
  | cfgDefH w a => cases hf; exact row w a .defH
  | cfgLimL w a => cases hf; exact row w a .limL
  | cfgLimM w a => cases hf; exact row w a .limM
  | cfgLimH w a => cases hf; exact row w a .limH
  | cfgStep w a => cases hf; exact row w a .step
  | cfgFlags w a => cases hf; exact row w a .flags
  | cfgDmaSrc w a => cases hf; exact row w a .dmaSrc
  | cfgDmaDst w a => cases hf; exact row w a .dmaDst
  | cfgDmaCountL w a => cases hf; exact row w a .dmaCountL
  | cfgDmaCountH w a => cases hf; exact row w a .dmaCountH
  | cfgUnknown w a f =>
    cases hf
    have hnone : ids.fieldOf f = none := fieldOf_eq_none_iff_notMem.2 (of_decide_eq_true hwf)
    rw [Instr.word, decodeCfgWord_cfgDataWord, decodeCfg_of_fieldOf_none w a hnone]
  | _ => cases hf

/-- Settles O1: a BUS row has the bytes of its word alone, and a CFG row has its id after them. -/
theorem decodeAfterEncodeIsIdentity : Obligations.DecodeAfterEncodeIsIdentity := by
  intro ids i hids hwf
  cases hf : i.fieldId ids with
  | none =>
    rw [encode, hf, Option.toList_none, List.append_nil, decode_wordBytes, decodeBus_word hwf hf]
  | some f =>
    rw [encode, hf, Option.toList_some, decode_wordBytes_field, decodeCfgWord_word hids hwf hf]

/-! ### The canonical word (rule R100) -/

/-- A mask acts on each field of a word. -/
theorem busWord_and (rw mr : Bool) (addr ma data md : Byte) :
    busWord rw addr data &&& busWord mr ma md = busWord (rw && mr) (addr &&& ma) (data &&& md) := by
  rw [busWord, busWord, busWord, BitVec.and_append, BitVec.and_append]
  cases rw <;> cases mr <;> rfl

theorem busWord_inj {rw rw' : Bool} {addr addr' data data' : Byte} :
    busWord rw addr data = busWord rw' addr' data' ↔ rw = rw' ∧ addr = addr' ∧ data = data' := by
  refine ⟨fun h => ⟨?_, ?_, ?_⟩, fun ⟨h1, h2, h3⟩ => by rw [h1, h2, h3]⟩
  · simpa using congrArg busRw h
  · simpa using congrArg busAddr h
  · simpa using congrArg busData h

@[simp] theorem byte_and_ones (x : Byte) : x &&& 0xFF#8 = x := BitVec.and_allOnes

/-- The canonical form of a read is the word with its data byte cleared (rule R100). -/
theorem canonicalWord_eq_and (T : BusWord) :
    canonicalWord T = if busRw T then T else T &&& 0x1FF00#17 := by
  have hmask : T &&& 0x1FF00#17 = busWord (busRw T) (busAddr T) 0x00#8 :=
    calc T &&& 0x1FF00#17
      _ = busWord (busRw T) (busAddr T) (busData T) &&& busWord true 0xFF#8 0x00#8 := by
        rw [busWord_fields]; rfl
      _ = busWord (busRw T) (busAddr T) 0x00#8 := by
        rw [busWord_and, Bool.and_true, byte_and_ones, BitVec.and_zero]
  rw [hmask, canonicalWord]
  cases busRw T <;> rfl

/-- Settles O2: the word of the decoded row is the canonical word, and its operands are in range. -/
theorem everyWordDecodesAndEncodesBack : Obligations.EveryWordDecodesAndEncodesBack :=
  fun ids T => ⟨decode_wordBytes ids T, decodeBus_wf ids T,
    (word_decodeBus T).trans (canonicalWord_eq_and T)⟩

/-! ### The first matching row (rule R113)

The direction of a word and the upper bits of its address leave a few rows of the table open. For
those the first match is a chain of tests, and the decoder tests the same in the same order. -/

/-- A row matches a word when it matches each of the word's fields. -/
@[simp] theorem matchesWord_busWord_iff (r : TableRow 17) (rw : Bool) (addr data : Byte) :
    r.matchesWord (busWord rw addr data) = true ↔
      (rw && busRw r.mask) = busRw r.pattern ∧ addr &&& busAddr r.mask = busAddr r.pattern ∧
        data &&& busData r.mask = busData r.pattern := by
  rw [← busWord_inj, ← busWord_and, busWord_fields, busWord_fields, TableRow.matchesWord,
    beq_iff_eq]

@[simp] theorem firstMatch_cons {n : Nat} (r : TableRow n) (rs : List (TableRow n))
    (X : BitVec n) :
    firstMatch (r :: rs) X = if r.matchesWord X = true then some r.order else firstMatch rs X := by
  unfold firstMatch
  rw [List.find?_cons]
  cases r.matchesWord X <;> rfl

/-- Whether a row is open to words of the direction `rw` whose address has the bits `c` in the
places `m`. -/
def TableRow.isOpen (rw : Bool) (m c : Byte) (r : TableRow 17) : Bool :=
  busWord rw c 0x00#8 &&& r.mask == r.pattern &&& busWord true m 0x00#8

/-- A row that matches a word is open to its direction and to any bits of its address. -/
theorem isOpen_of_matchesWord {r : TableRow 17} {rw : Bool} {addr data m c : Byte}
    (haddr : addr &&& m = c) (h : r.matchesWord (busWord rw addr data) = true) :
    r.isOpen rw m c = true := by
  rw [TableRow.matchesWord, beq_iff_eq] at h
  have hc : busWord rw c 0x00#8 = busWord rw addr data &&& busWord true m 0x00#8 := by
    rw [busWord_and, haddr, Bool.and_true, BitVec.and_zero]
  rw [TableRow.isOpen, beq_iff_eq, ← h, hc]
  ac_rfl

/-- The first match is found among the open rows. -/
theorem firstMatch_open {rw : Bool} {addr m c : Byte} (haddr : addr &&& m = c) (data : Byte) :
    firstMatch busTable (busWord rw addr data) =
      firstMatch (busTable.filter (TableRow.isOpen rw m c)) (busWord rw addr data) := by
  have hopen (r : TableRow 17) :
      decide (r.isOpen rw m c = true ∧ r.matchesWord (busWord rw addr data) = true) =
        r.matchesWord (busWord rw addr data) := by
    rw [Bool.eq_iff_iff, decide_eq_true_iff, and_iff_right_iff_imp]
    exact isOpen_of_matchesWord haddr
  simp only [firstMatch, List.find?_filter, hopen]

/-- A byte whose upper half is 0 is told by its lower half. -/
theorem offset_append_eq_iff {off : BitVec 4} {x : Byte} :
    0#4 ++ off = x ↔ x.extractLsb' 4 4 = 0#4 ∧ off = x.extractLsb' 0 4 := by
  constructor
  · rintro rfl
    revert off; decide
  · rintro ⟨h, rfl⟩
    revert x; decide

/-- A shared address is a byte with bit 7 set, told by the register's number. -/
theorem sharedAddr_eq_iff {sreg : BitVec 7} {x : Byte} :
    sharedAddr sreg = x ↔ x.getLsbD 7 = true ∧ sreg = x.extractLsb' 0 7 := by
  constructor
  · rintro rfl
    revert sreg; decide
  · rintro ⟨h, rfl⟩
    revert x; decide

/-! #### The row numbers along the decoder's chains of tests -/

theorem rowNumber_decodeWindowRead (w : WindowNo) (off : BitVec 4) :
    (decodeWindowRead w off).rowNumber =
      if off = 0#4 then 1 else if off = 1#4 then 3 else if off = 2#4 then 5
      else if off = 3#4 then 7 else if off = 4#4 then 9 else 15 := by
  unfold decodeWindowRead
  split_ifs <;> rfl

theorem rowNumber_decodeWindowCommand (w : WindowNo) (c : Byte) :
    (decodeWindowCommand w c).rowNumber =
      if c = 0#8 then 10 else if c = 1#8 then 11 else if c = 2#8 then 12
      else if c = 3#8 then 13 else 14 := by
  unfold decodeWindowCommand
  split_ifs <;> rfl

theorem rowNumber_decodeWindowWrite (w : WindowNo) (off : BitVec 4) (b : Byte) :
    (decodeWindowWrite w off b).rowNumber =
      if off = 0#4 then 2 else if off = 1#4 then 4 else if off = 2#4 then 6
      else if off = 3#4 then 8 else if off = 4#4 then (decodeWindowCommand w b).rowNumber
      else 16 := by
  unfold decodeWindowWrite
  split_ifs <;> rfl

theorem rowNumber_decodeSharedRead (sreg : BitVec 7) :
    (decodeSharedRead sreg).rowNumber =
      if sreg = 0x70#7 then 19 else if sreg = 0x71#7 then 21 else if sreg = 0x72#7 then 23
      else if sreg = 0x73#7 then 25 else if sreg = 0x74#7 then 27 else if sreg = 0x75#7 then 29
      else if sreg = 0x7F#7 then 31 else 39 := by
  unfold decodeSharedRead
  split_ifs <;> rfl

theorem rowNumber_decodeSharedCommand (c : Byte) :
    (decodeSharedCommand c).rowNumber =
      if c = 0#8 then 32 else if c = 1#8 then 33 else if c = 2#8 then 34
      else if c = 3#8 then 35 else if c = 4#8 then 36 else if c = 5#8 then 37 else 38 := by
  unfold decodeSharedCommand
  split_ifs <;> rfl

theorem rowNumber_decodeSharedWrite (sreg : BitVec 7) (b : Byte) :
    (decodeSharedWrite sreg b).rowNumber =
      if sreg = 0x70#7 then 20 else if sreg = 0x71#7 then 22 else if sreg = 0x72#7 then 24
      else if sreg = 0x73#7 then 26 else if sreg = 0x74#7 then 28 else if sreg = 0x75#7 then 30
      else if sreg = 0x7F#7 then (decodeSharedCommand b).rowNumber else 40 := by
  unfold decodeSharedWrite
  split_ifs <;> rfl

/-! #### The open rows of each space, tried in the table's order -/

theorem firstMatch_windowRead (w : WindowNo) (off : BitVec 4) (data : Byte) :
    firstMatch busTable (busWord false (windowAddr w off) data) =
      some (decodeWindowRead w off).rowNumber := by
  have hrows : busTable.filter (TableRow.isOpen false 0xC0#8 0x00#8) =
      [busTable[0], busTable[2], busTable[4], busTable[6], busTable[8], busTable[14]] := by decide
  rw [firstMatch_open (Laws.windowAddr_class w off), hrows, rowNumber_decodeWindowRead]
  simp [busTable, busRw, busAddr, busData, Laws.windowAddr_offset, Laws.windowAddr_class,
    offset_append_eq_iff, apply_ite some]

theorem firstMatch_windowWrite (w : WindowNo) (off : BitVec 4) (data : Byte) :
    firstMatch busTable (busWord true (windowAddr w off) data) =
      some (decodeWindowWrite w off data).rowNumber := by
  have hrows : busTable.filter (TableRow.isOpen true 0xC0#8 0x00#8) =
      [busTable[1], busTable[3], busTable[5], busTable[7], busTable[9], busTable[10],
        busTable[11], busTable[12], busTable[13], busTable[15]] := by decide
  rw [firstMatch_open (Laws.windowAddr_class w off), hrows, rowNumber_decodeWindowWrite,
    rowNumber_decodeWindowCommand]
  by_cases hcmd : off = 4#4 <;>
    simp [busTable, busRw, busAddr, busData, Laws.windowAddr_offset, Laws.windowAddr_class,
      offset_append_eq_iff, apply_ite some, hcmd]

theorem firstMatch_reservedWindow (rw : Bool) (low : BitVec 6) (data : Byte) :
    firstMatch busTable (busWord rw (reservedWindowAddr low) data) =
      some (if rw then 18 else 17) := by
  have hrows : busTable.filter (TableRow.isOpen rw 0xC0#8 0x40#8) =
      [if rw then busTable[17] else busTable[16]] := by
    cases rw <;> decide
  rw [firstMatch_open (Laws.reservedWindowAddr_class low), hrows]
  cases rw <;> simp [busTable, busRw, busAddr, busData, Laws.reservedWindowAddr_class]

theorem firstMatch_sharedRead (sreg : BitVec 7) (data : Byte) :
    firstMatch busTable (busWord false (sharedAddr sreg) data) =
      some (decodeSharedRead sreg).rowNumber := by
  have hrows : busTable.filter (TableRow.isOpen false 0x80#8 0x80#8) =
      [busTable[18], busTable[20], busTable[22], busTable[24], busTable[26], busTable[28],
        busTable[30], busTable[38]] := by decide
  rw [firstMatch_open (Laws.sharedAddr_class sreg), hrows, rowNumber_decodeSharedRead]
  simp [busTable, busRw, busAddr, busData, Laws.sharedAddr_class, sharedAddr_eq_iff, apply_ite some]

theorem firstMatch_sharedWrite (sreg : BitVec 7) (data : Byte) :
    firstMatch busTable (busWord true (sharedAddr sreg) data) =
      some (decodeSharedWrite sreg data).rowNumber := by
  have hrows : busTable.filter (TableRow.isOpen true 0x80#8 0x80#8) =
      [busTable[19], busTable[21], busTable[23], busTable[25], busTable[27], busTable[29],
        busTable[31], busTable[32], busTable[33], busTable[34], busTable[35], busTable[36],
        busTable[37], busTable[39]] := by decide
  rw [firstMatch_open (Laws.sharedAddr_class sreg), hrows, rowNumber_decodeSharedWrite,
    rowNumber_decodeSharedCommand]
  by_cases hcmd : sreg = 0x7F#7 <;>
    simp [busTable, busRw, busAddr, busData, Laws.sharedAddr_class, sharedAddr_eq_iff,
      apply_ite some, hcmd]

/-- The decoder answers the first row of the BUS table that matches, in each space and direction. -/
theorem firstMatch_busTable (T : BusWord) :
    firstMatch busTable T = some (decodeBus T).rowNumber := by
  obtain ⟨rw, addr, data, rfl⟩ := exists_busWord T
  obtain ⟨w, off, rfl⟩ | ⟨low, rfl⟩ | ⟨sreg, rfl⟩ := addr_cases addr
  · rw [decodeBus_windowAddr]
    cases rw
    · exact firstMatch_windowRead w off data
    · exact firstMatch_windowWrite w off data
  · rw [decodeBus_reservedWindowAddr, firstMatch_reservedWindow]
    cases rw <;> rfl
  · rw [decodeBus_sharedAddr]
    cases rw
    · exact firstMatch_sharedRead sreg data
    · exact firstMatch_sharedWrite sreg data

/-- Every row of the CFG table but the last asks for the id of a field. -/
theorem cfgTable_take_asks_for_field : ∀ r ∈ cfgTable.take 15,
    r.mask = 0xFF#8 ∧ r.pattern ∈ CfgField.all.map defaultCfgIds.idOf := by decide

/-- An id that names no field matches the last row of the CFG table alone. -/
theorem firstMatch_cfgTable_unknown {f : Byte} (h : f ∉ CfgField.all.map defaultCfgIds.idOf) :
    firstMatch cfgTable f = some 16 := by
  have hskip : (cfgTable.take 15).find? (fun r => r.matchesWord f) = none := by
    refine List.find?_eq_none.2 fun r hr hmatch => ?_
    obtain ⟨hmask, hpattern⟩ := cfgTable_take_asks_for_field r hr
    rw [TableRow.matchesWord, hmask, byte_and_ones, beq_iff_eq] at hmatch
    exact h (hmatch ▸ hpattern)
  have hsplit : cfgTable = cfgTable.take 15 ++ [cfgTable[15]] := rfl
  rw [firstMatch, hsplit, List.find?_append, hskip]
  simp [cfgTable, TableRow.matchesWord]

/-- The decoder answers the first row of the CFG table that matches. -/
theorem firstMatch_cfgTable (w : WindowNo) (a : CfgAccess) (f : Byte) :
    (firstMatch cfgTable f).map (40 + ·) = some (decodeCfg defaultCfgIds w a f).rowNumber := by
  cases hf : defaultCfgIds.fieldOf f with
  | none =>
    rw [decodeCfg_of_fieldOf_none w a hf,
      firstMatch_cfgTable_unknown (fieldOf_eq_none_iff_notMem.1 hf)]
    rfl
  | some x =>
    rw [decodeCfg_of_fieldOf w a hf, ← idOf_of_fieldOf _ f x hf]
    cases x <;> rfl

/-- Settles O3, table by table. -/
theorem decoderTakesTheFirstMatchingRow : Obligations.DecoderTakesTheFirstMatchingRow :=
  ⟨firstMatch_busTable, firstMatch_cfgTable, by decide, by decide⟩

/-- Settles O4, by running the decoder on each word. -/
theorem wordsOfTheSpecDecode : Obligations.WordsOfTheSpecDecode := by
  unfold Obligations.WordsOfTheSpecDecode
  decide

/-! ### The rows of the 256 addresses (rule R104) -/

theorem toNat_windowAddr (w : WindowNo) (off : BitVec 4) :
    (windowAddr w off).toNat = 16 * w.toNat + off.toNat := by
  revert w off; decide

theorem toNat_reservedWindowAddr (low : BitVec 6) :
    (reservedWindowAddr low).toNat = 0x40 + low.toNat := by
  revert low; decide

theorem toNat_sharedAddr (sreg : BitVec 7) : (sharedAddr sreg).toNat = 0x80 + sreg.toNat := by
  revert sreg; decide

/-- The number of the row that a read of the address `a` selects. Each register has two rows, the
read's first. -/
def readRow (a : Nat) : Nat :=
  if a < 0x40 then if a % 16 < 5 then 1 + 2 * (a % 16) else 15
  else if a < 0x80 then 17
  else if a < 0xF0 then 39
  else if a < 0xF6 then 19 + 2 * (a - 0xF0)
  else if a < 0xFF then 39
  else 31

theorem rowNumber_decodeWindowRead_eq_readRow (w : WindowNo) (off : BitVec 4) :
    (decodeWindowRead w off).rowNumber = readRow (16 * w.toNat + off.toNat) := by
  revert w off; decide

theorem rowNumber_decodeSharedRead_eq_readRow (sreg : BitVec 7) :
    (decodeSharedRead sreg).rowNumber = readRow (0x80 + sreg.toNat) := by
  revert sreg; decide

/-- The row of a read of an address follows from the number of the address. -/
theorem rowNumber_decodeBus_read (addr : Byte) :
    (decodeBus (busWord false addr 0x00#8)).rowNumber = readRow addr.toNat := by
  obtain ⟨w, off, rfl⟩ | ⟨low, rfl⟩ | ⟨sreg, rfl⟩ := addr_cases addr
  · rw [decodeBus_windowAddr, toNat_windowAddr]
    exact rowNumber_decodeWindowRead_eq_readRow w off
  · rw [decodeBus_reservedWindowAddr, toNat_reservedWindowAddr]
    have hlow := low.isLt
    have h1 : ¬ 0x40 + low.toNat < 0x40 := by omega
    have h2 : 0x40 + low.toNat < 0x80 := by omega
    rw [readRow, if_neg h1, if_pos h2]
    rfl
  · rw [decodeBus_sharedAddr, toNat_sharedAddr]
    exact rowNumber_decodeSharedRead_eq_readRow sreg

end Sys2Proof

namespace Sys2Proof.Machine

theorem addressRow_eq_readRow {a : Nat} (ha : a < 256) : addressRow a = readRow a := by
  rw [addressRow, rowNumber_decodeBus_read, BitVec.toNat_ofNat, Nat.mod_eq_of_lt ha]

/-- A condition on the rows of the addresses is one on the addresses' numbers. -/
theorem filter_addressRow (p : Nat → Prop) [DecidablePred p] :
    (List.range 256).filter (fun a => p (addressRow a)) =
      (List.range 256).filter (fun a => p (readRow a)) :=
  List.filter_congr fun a ha => by rw [addressRow_eq_readRow (List.mem_range.1 ha)]

/-- Settles O6: the row of an address is a function of its number, and each range is read off it. -/
theorem addressClassesAreAsCounted : Obligations.AddressClassesAreAsCounted := by
  have hoffsets := (filter_addressRow (· = 15)).trans
    (by decide : _ = List.range' 0x05 11 ++ List.range' 0x15 11 ++ List.range' 0x25 11 ++
      List.range' 0x35 11)
  refine ⟨hoffsets, (filter_addressRow (· = 17)).trans (by decide),
    (filter_addressRow (· = 39)).trans (by decide), ?_,
    (filter_addressRow (· ≤ 9)).trans (by decide),
    (filter_addressRow (· ∈ [19, 21, 23, 25, 27, 29, 31])).trans (by decide)⟩
  rw [List.countP_eq_length_filter, hoffsets]
  rfl

/-! ### The row that CFG_DATA consults (rule R113, rule R266, rule R267) -/

/-- Consulting the row that a window's field register selects is that row's own meaning. -/
theorem consultCfgRow_eq_exec (w : WindowNo) (a : CfgAccess) (s : State) :
    consultCfgRow w a s = exec (decodeCfg s.cfg.cfgIds w a (s.window w).field) s := by
  unfold consultCfgRow
  cases hf : s.cfg.cfgIds.fieldOf (s.window w).field with
  | none => rw [decodeCfg_of_fieldOf_none w a hf]; rfl
  | some x =>
    rw [decodeCfg_of_fieldOf w a hf]
    cases x <;> rfl

/-- Settles O8: RD.CFG_DATA and WR.CFG_DATA consult the selected row. -/
theorem cfgDataRunsTheSelectedRow : Obligations.CfgDataRunsTheSelectedRow :=
  fun s w b => ⟨consultCfgRow_eq_exec w .get s, consultCfgRow_eq_exec w (.set b) s⟩

end Sys2Proof.Machine

namespace Sys2Proof.Machine

/-! ### The auto-step and the wrap (rule R133, rule R134, rule R135) -/

section
variable {c : Config} {sl : Slot}

/-- With AUTO_STEP clear `cur` stays (D11). -/
theorem Slot.nextCur_of_not_autoStep (h : sl.autoStep c = false) : sl.nextCur c = sl.cur := by
  simp [Slot.nextCur, h]

theorem Slot.nextCur_of_wrap (hauto : sl.autoStep c = true)
    (h : sl.wrapOnLimit c = true ∧ sl.crossed c = true) : sl.nextCur c = sl.dflt := by
  simp [Slot.nextCur, hauto, h]

theorem Slot.nextCur_of_not_wrap (hauto : sl.autoStep c = true)
    (h : ¬ (sl.wrapOnLimit c = true ∧ sl.crossed c = true)) : sl.nextCur c = sl.stepped c := by
  simp [Slot.nextCur, hauto, h]

/-- With AUTO_STEP on, a wrapping slot that crosses its limit, as `p` tests, goes to its default and
any other to the stepped address. -/
theorem Slot.nextCur_of_autoStep (hauto : sl.autoStep c = true) {p : Prop} [Decidable p]
    (hcross : sl.crossed c = true ↔ p) :
    if sl.flags.getLsbD c.wrapBit = true ∧ p then sl.nextCur c = sl.dflt
    else (sl.nextCur c).toNat = (sl.stepped c).toNat := by
  have hcond : sl.wrapOnLimit c = true ∧ sl.crossed c = true ↔
      sl.flags.getLsbD c.wrapBit = true ∧ p := and_congr_right' hcross
  split
  next hwrap => exact Slot.nextCur_of_wrap hauto (hcond.2 hwrap)
  next hwrap => rw [Slot.nextCur_of_not_wrap hauto (mt hcond.1 hwrap)]

theorem Slot.toNat_stepped_forward (h : sl.backward c = false) :
    (sl.stepped c).toNat = (sl.cur.toNat + sl.step.toNat) % 2 ^ 24 := by
  simp [Slot.stepped, h]

theorem Slot.toNat_stepped_backward (h : sl.backward c = true) :
    (sl.stepped c).toNat = (sl.cur.toNat + 2 ^ 24 - sl.step.toNat) % 2 ^ 24 := by
  have hstep := sl.step.isLt
  simp only [Slot.stepped, h, if_true, BitVec.toNat_sub, BitVec.toNat_setWidth]
  omega

theorem Slot.crossed_forward (h : sl.backward c = false) :
    sl.crossed c = true ↔ sl.lim.toNat ≤ (sl.stepped c).toNat := by
  simp [Slot.crossed, h]

theorem Slot.crossed_backward (h : sl.backward c = true) :
    sl.crossed c = true ↔ (sl.stepped c).toNat < sl.lim.toNat := by
  simp [Slot.crossed, h]

end

/-- Settles O17: `cur` stays, or the stepped address is compared with the limit after masking. -/
theorem advanceStepsAndWraps : Obligations.AdvanceStepsAndWraps := by
  intro c sl
  refine ⟨Slot.nextCur_of_not_autoStep, fun hauto hdir n hn => ?_, fun hauto hdir n hn => ?_⟩
  · rw [hn, ← Slot.toNat_stepped_forward hdir]
    exact Slot.nextCur_of_autoStep hauto (Slot.crossed_forward hdir)
  · rw [hn, ← Slot.toNat_stepped_backward hdir]
    exact Slot.nextCur_of_autoStep hauto (Slot.crossed_backward hdir)

/-! ### An access of DATA_PORT as one function of the state (rule R262, rule R263) -/

/-- The state that RD.DATA_PORT leaves. -/
def State.readPort (s : State) (w : WindowNo) : State :=
  (s.engineRead (s.activeIx w)).reply (s.engineReadByte (s.activeIx w))

/-- The state that WR.DATA_PORT leaves. -/
def State.writePort (s : State) (w : WindowNo) (b : Byte) : State :=
  (s.engineWrite (s.activeIx w) b).acknowledge

/-- The state that WCMD.RESET_INDEX leaves (rule R182). -/
def State.resetIndex (s : State) (w : WindowNo) : State :=
  (s.setSlot (s.activeIx w) { s.activeSlot w with cur := (s.activeSlot w).dflt }).acknowledge

theorem exec_rdDataPort (w : WindowNo) (s : State) :
    exec (.rdDataPort w) s = .next (s.readPort w) := rfl

theorem exec_wrDataPort (w : WindowNo) (b : Byte) (s : State) :
    exec (.wrDataPort w b) s = .next (s.writePort w b) := rfl

/-- The transaction of a well-formed BUS row runs that row. -/
theorem runEvent_transaction {ids : CfgIds} {i : Instr} (hwf : i.wf ids = true)
    (hbus : i.fieldId ids = none) (s : State) : runEvent (transaction i) s = exec i s :=
  congrArg (exec · s) (decodeBus_word hwf hbus)

theorem runEvent_rdDataPort (w : WindowNo) (s : State) :
    runEvent (transaction (.rdDataPort w)) s = .next (s.readPort w) :=
  runEvent_transaction (ids := defaultCfgIds) rfl rfl s

theorem runEvent_wrDataPort (w : WindowNo) (b : Byte) (s : State) :
    runEvent (transaction (.wrDataPort w b)) s = .next (s.writePort w b) :=
  runEvent_transaction (ids := defaultCfgIds) rfl rfl s

theorem runEvent_wcmdResetIndex (w : WindowNo) (s : State) :
    runEvent (transaction (.wcmdResetIndex w)) s = .next (s.resetIndex w) :=
  runEvent_transaction (ids := defaultCfgIds) rfl rfl s

/-! ### What an access in bounds and one out of bounds leave (rule R131, rule R132) -/

section
variable {s : State} {w : WindowNo}

theorem State.readPort_of_lt (h : (s.activeSlot w).cur.toNat < s.cfg.capacity) :
    s.readPort w =
      (s.advance (s.activeIx w)).reply (s.memRead (s.activeSlot w).cur.toNat) := by
  obtain ⟨-, hstate, hbyte⟩ | ⟨hout, -⟩ := s.engineRead_cases (s.activeIx w)
  · rw [State.readPort, hstate, hbyte]
    rfl
  · exact absurd h (Nat.not_lt.2 hout)

theorem State.readPort_of_le (h : s.cfg.capacity ≤ (s.activeSlot w).cur.toNat) :
    s.readPort w = s.raiseMemoryError.reply s.cfg.oobReadSentinel := by
  obtain ⟨hin, -⟩ | ⟨-, hstate, hbyte⟩ := s.engineRead_cases (s.activeIx w)
  · exact absurd hin (Nat.not_lt.2 h)
  · rw [State.readPort, hstate, hbyte]

theorem State.writePort_of_lt (b : Byte) (h : (s.activeSlot w).cur.toNat < s.cfg.capacity) :
    s.writePort w b =
      ((s.memWrite (s.activeSlot w).cur.toNat b).advance (s.activeIx w)).acknowledge := by
  obtain ⟨-, hstate⟩ | ⟨hout, -⟩ := s.engineWrite_cases (s.activeIx w) b
  · rw [State.writePort, hstate]
    rfl
  · exact absurd h (Nat.not_lt.2 hout)

theorem State.writePort_of_le (b : Byte) (h : s.cfg.capacity ≤ (s.activeSlot w).cur.toNat) :
    s.writePort w b = s.raiseMemoryError.acknowledge := by
  obtain ⟨hin, -⟩ | ⟨-, hstate⟩ := s.engineWrite_cases (s.activeIx w) b
  · exact absurd hin (Nat.not_lt.2 h)
  · rw [State.writePort, hstate]

end

/-- MemoryError sets its two bits alone (rule R11). -/
theorem State.raiseMemoryError_onlyChanges (s : State) :
    OnlyChanges [.status, .irq] s s.raiseMemoryError := by
  simp [onlyChanges_iff]

theorem State.advance_onlyChangesSlot (s : State) (k : SlotIx) :
    OnlyChangesSlot k s (s.advance k) :=
  ⟨by simp [onlyChanges_iff], fun _ hj => s.slot_advance_other hj.symm⟩

/-- The byte on `bus_rdata` is no part of rule R20's list. -/
theorem OnlyChanges.answer {parts : List Part} {s t : State} (h : OnlyChanges parts s t)
    (r : Option Byte) : OnlyChanges parts s (t.answer r) :=
  (onlyChanges_iff _ _ _).2 ((onlyChanges_iff _ _ _).1 h)

/-- Settles O15: the two cases of `ENGINE.READ` (rule R131). -/
theorem dataPortReadReturnsTheByteOrTheSentinel :
    Obligations.DataPortReadReturnsTheByteOrTheSentinel := by
  refine fun s w => ⟨fun hin => ⟨_, exec_rdDataPort w s, ?_⟩,
    fun hout => ⟨_, exec_rdDataPort w s, ?_⟩⟩
  · obtain ⟨hparts, hslots⟩ := s.advance_onlyChangesSlot (s.activeIx w)
    rw [State.readPort_of_lt hin]
    exact ⟨rfl, (s.slot_advance _ _).trans (if_pos rfl), hparts.answer _, hslots⟩
  · rw [State.readPort_of_le hout]
    exact ⟨rfl, rfl, rfl, s.raiseMemoryError_onlyChanges.answer _⟩

/-- Settles O16: the two cases of `ENGINE.WRITE` (rule R132). -/
theorem dataPortWriteStoresTheByteOrDropsIt :
    Obligations.DataPortWriteStoresTheByteOrDropsIt := by
  refine fun s w b => ⟨fun hin => ⟨_, exec_wrDataPort w b s, ?_⟩,
    fun hout => ⟨_, exec_wrDataPort w b s, ?_⟩⟩
  · rw [State.writePort_of_lt b hin]
    refine ⟨(s.memRead_memWrite _ _ b).trans (if_pos rfl),
      fun a ha => (s.memRead_memWrite _ a b).trans (if_neg ha.symm),
      (State.slot_advance _ _ _).trans (if_pos rfl),
      fun j hj => State.slot_advance_other _ hj.symm, ?_⟩
    simp [onlyChanges_iff]
  · rw [State.writePort_of_le b hout]
    exact ⟨rfl, rfl, s.raiseMemoryError_onlyChanges.answer _⟩

/-! ### The slot along the accesses of a window -/

/-- A slot after `advance` (rule R133). -/
def Slot.advanced (c : Config) (sl : Slot) : Slot := { sl with cur := sl.nextCur c }

/-- The slot of window `w` after `n` accesses in bounds. -/
def State.portSlot (s : State) (w : WindowNo) (n : Nat) : Slot :=
  (Slot.advanced s.cfg)^[n] (s.activeSlot w)

/-- The address of access number `n` through window `w`, the first being number 0. -/
def State.portAddr (s : State) (w : WindowNo) (n : Nat) : Nat := (s.portSlot w n).cur.toNat

section
variable {s : State} {w : WindowNo}

@[simp] theorem State.readPort_cfg : (s.readPort w).cfg = s.cfg := by
  obtain ⟨-, h, -⟩ | ⟨-, h, -⟩ := s.engineRead_cases (s.activeIx w) <;> simp [State.readPort, h]

@[simp] theorem State.readPort_memRead (a : Nat) : (s.readPort w).memRead a = s.memRead a := by
  simp [State.readPort]

@[simp] theorem State.writePort_cfg (b : Byte) : (s.writePort w b).cfg = s.cfg := by
  obtain ⟨-, h⟩ | ⟨-, h⟩ := s.engineWrite_cases (s.activeIx w) b <;> simp [State.writePort, h]

@[simp] theorem State.readPort_window (v : WindowNo) : (s.readPort w).window v = s.window v := by
  obtain ⟨-, h, -⟩ | ⟨-, h, -⟩ := s.engineRead_cases (s.activeIx w) <;> simp [State.readPort, h]

@[simp] theorem State.writePort_window (b : Byte) (v : WindowNo) :
    (s.writePort w b).window v = s.window v := by
  obtain ⟨-, h⟩ | ⟨-, h⟩ := s.engineWrite_cases (s.activeIx w) b <;> simp [State.writePort, h]

@[simp] theorem State.readPort_activeIx (v : WindowNo) :
    (s.readPort w).activeIx v = s.activeIx v := by
  rw [State.activeIx, State.readPort_window, State.activeIx]

@[simp] theorem State.writePort_activeIx (b : Byte) (v : WindowNo) :
    (s.writePort w b).activeIx v = s.activeIx v := by
  rw [State.activeIx, State.writePort_window, State.activeIx]

theorem State.readPort_activeSlot (h : (s.activeSlot w).cur.toNat < s.cfg.capacity) :
    (s.readPort w).activeSlot w = (s.activeSlot w).advanced s.cfg := by
  rw [State.readPort_of_lt h]
  exact (s.slot_advance _ _).trans (if_pos rfl)

theorem State.readPort_rdata (h : (s.activeSlot w).cur.toNat < s.cfg.capacity) :
    (s.readPort w).rdata = some (s.memRead (s.activeSlot w).cur.toNat) := by
  rw [State.readPort_of_lt h, State.reply_rdata]

theorem State.writePort_activeSlot (b : Byte) (h : (s.activeSlot w).cur.toNat < s.cfg.capacity) :
    (s.writePort w b).activeSlot w = (s.activeSlot w).advanced s.cfg := by
  rw [State.writePort_of_lt b h]
  exact (State.slot_advance _ _ _).trans (if_pos rfl)

theorem State.writePort_memRead (b : Byte) (h : (s.activeSlot w).cur.toNat < s.cfg.capacity)
    (a : Nat) :
    (s.writePort w b).memRead a = if (s.activeSlot w).cur.toNat = a then b else s.memRead a := by
  rw [State.writePort_of_lt b h]
  exact s.memRead_memWrite _ a b

theorem State.portSlot_succ (n : Nat) : s.portSlot w (n + 1) = (s.portSlot w n).advanced s.cfg :=
  Function.iterate_succ_apply' _ _ _

/-- Access number `n` after a write is access number `n + 1` before it. -/
theorem State.writePort_portSlot (b : Byte) (h : (s.activeSlot w).cur.toNat < s.cfg.capacity)
    (n : Nat) : (s.writePort w b).portSlot w n = s.portSlot w (n + 1) := by
  rw [State.portSlot, State.writePort_cfg, State.writePort_activeSlot b h]
  rfl

theorem State.writePort_portAddr (b : Byte) (h : (s.activeSlot w).cur.toNat < s.cfg.capacity)
    (n : Nat) : (s.writePort w b).portAddr w n = s.portAddr w (n + 1) := by
  rw [State.portAddr, State.writePort_portSlot b h]
  rfl

end

/-- Settles O18: `cur` stays where it is, so that the read is of the byte just stored. -/
theorem writeThenReadWithoutAutoStepReturnsTheByte :
    Obligations.WriteThenReadWithoutAutoStepReturnsTheByte := by
  intro s w b hauto hin
  have hstay : (s.activeSlot w).advanced s.cfg = s.activeSlot w := by
    rw [Slot.advanced, Slot.nextCur_of_not_autoStep hauto]
  have hslot : (s.writePort w b).activeSlot w = s.activeSlot w :=
    (State.writePort_activeSlot b hin).trans hstay
  have hin' : ((s.writePort w b).activeSlot w).cur.toNat < (s.writePort w b).cfg.capacity := by
    rwa [hslot, State.writePort_cfg]
  refine ⟨(s.writePort w b).readPort w, ?_, ?_, ?_⟩
  · rw [runEvents_cons _ (runEvent_wrDataPort w b s), runEvents_cons _ (runEvent_rdDataPort w _)]
    rfl
  · rw [State.readPort_rdata hin', hslot, State.writePort_memRead b hin, if_pos rfl]
  · have hread := State.readPort_activeSlot hin'
    rw [hslot, State.writePort_cfg, hstay, State.activeSlot, State.readPort_activeIx,
      State.writePort_activeIx] at hread
    exact hread

/-! ### Runs of writes and of reads -/

/-- The state that a write of each byte of a list leaves. -/
def State.writesPort (s : State) (w : WindowNo) (bs : List Byte) : State :=
  bs.foldl (·.writePort w ·) s

/-- The state that `n` reads leave. -/
def State.readsPort (s : State) (w : WindowNo) (n : Nat) : State := (·.readPort w)^[n] s

@[simp] theorem State.writesPort_nil (s : State) (w : WindowNo) : s.writesPort w [] = s := rfl

@[simp] theorem State.writesPort_cons (s : State) (w : WindowNo) (b : Byte) (bs : List Byte) :
    s.writesPort w (b :: bs) = (s.writePort w b).writesPort w bs := rfl

theorem State.writesPort_append_singleton (s : State) (w : WindowNo) (bs : List Byte) (b : Byte) :
    s.writesPort w (bs ++ [b]) = (s.writesPort w bs).writePort w b :=
  List.foldl_append

theorem State.readsPort_succ (s : State) (w : WindowNo) (n : Nat) :
    s.readsPort w (n + 1) = (s.readsPort w n).readPort w :=
  Function.iterate_succ_apply' _ _ _

theorem runEvents_writes (w : WindowNo) (bs : List Byte) (s : State) :
    runEvents (bs.map fun b => transaction (.wrDataPort w b)) s = .next (s.writesPort w bs) := by
  induction bs generalizing s with
  | nil => rfl
  | cons b bs ih =>
    rw [List.map_cons, runEvents_cons _ (runEvent_wrDataPort w b s), ih, State.writesPort_cons]

theorem runEvents_reads (w : WindowNo) (n : Nat) (s : State) :
    runEvents (List.replicate n (transaction (.rdDataPort w))) s = .next (s.readsPort w n) := by
  induction n generalizing s with
  | zero => rfl
  | succ n ih =>
    rw [List.replicate_succ, runEvents_cons _ (runEvent_rdDataPort w s), ih]
    rfl

section
variable {s : State} {w : WindowNo} {bs : List Byte}

@[simp] theorem State.writesPort_cfg : (s.writesPort w bs).cfg = s.cfg := by
  induction bs generalizing s with
  | nil => rfl
  | cons b bs ih => rw [State.writesPort_cons, ih, State.writePort_cfg]

@[simp] theorem State.writesPort_activeIx : (s.writesPort w bs).activeIx w = s.activeIx w := by
  induction bs generalizing s with
  | nil => rfl
  | cons b bs ih => rw [State.writesPort_cons, ih, State.writePort_activeIx]

/-- The writes after a first one are in bounds where all of them were. -/
theorem State.writePort_inBounds {b : Byte}
    (h : ∀ i < (b :: bs).length, s.portAddr w i < s.cfg.capacity) :
    ∀ i < bs.length, (s.writePort w b).portAddr w i < (s.writePort w b).cfg.capacity := by
  intro i hi
  rw [State.writePort_portAddr b (h 0 (by simp)), State.writePort_cfg]
  exact h (i + 1) (by simpa using hi)

/-- Writes in bounds take the slot one step each. -/
theorem State.writesPort_activeSlot (h : ∀ i < bs.length, s.portAddr w i < s.cfg.capacity) :
    (s.writesPort w bs).activeSlot w = s.portSlot w bs.length := by
  induction bs generalizing s with
  | nil => rfl
  | cons b bs ih =>
    rw [State.writesPort_cons, ih (State.writePort_inBounds h),
      State.writePort_portSlot b (h 0 (by simp)), List.length_cons]

/-- The slot that the writes went through, named as before them. -/
theorem State.writesPort_slot (h : ∀ i < bs.length, s.portAddr w i < s.cfg.capacity) :
    (s.writesPort w bs).slot (s.activeIx w) = s.portSlot w bs.length := by
  rw [← State.writesPort_activeSlot h, State.activeSlot, State.writesPort_activeIx]

/-- Writes in bounds change no byte but those they address. -/
theorem State.writesPort_memRead_other (h : ∀ i < bs.length, s.portAddr w i < s.cfg.capacity)
    {a : Nat} (ha : ∀ i < bs.length, s.portAddr w i ≠ a) :
    (s.writesPort w bs).memRead a = s.memRead a := by
  induction bs generalizing s with
  | nil => rfl
  | cons b bs ih =>
    have hin := h 0 (by simp)
    have hfirst : (s.activeSlot w).cur.toNat ≠ a := ha 0 (by simp)
    rw [State.writesPort_cons, ih (State.writePort_inBounds h), State.writePort_memRead b hin,
      if_neg hfirst]
    intro i hi
    rw [State.writePort_portAddr b hin]
    exact ha (i + 1) (by simpa using hi)

/-- Writes in bounds at distinct addresses leave each byte at the address of its write. -/
theorem State.writesPort_memRead (h : ∀ i < bs.length, s.portAddr w i < s.cfg.capacity)
    (hne : ∀ i j, i < j → j < bs.length → s.portAddr w i ≠ s.portAddr w j)
    {j : Nat} (hj : j < bs.length) : (s.writesPort w bs).memRead (s.portAddr w j) = bs[j] := by
  induction bs generalizing s j with
  | nil => cases hj
  | cons b bs ih =>
    have hin := h 0 (by simp)
    have hshift := State.writePort_portAddr (s := s) (w := w) b hin
    have htail := State.writePort_inBounds h
    rw [State.writesPort_cons]
    cases j with
    | zero =>
      rw [State.writesPort_memRead_other htail, State.writePort_memRead b hin]
      · exact if_pos rfl
      · intro i hi
        rw [hshift]
        exact (hne 0 (i + 1) (by simp) (by simpa using hi)).symm
    | succ j =>
      rw [← hshift, ih htail, List.getElem_cons_succ]
      intro i k hik hk
      rw [hshift, hshift]
      exact hne _ _ (by simpa using hik) (by simpa using hk)

@[simp] theorem State.readsPort_cfg (n : Nat) : (s.readsPort w n).cfg = s.cfg := by
  induction n with
  | zero => rfl
  | succ n ih => rw [State.readsPort_succ, State.readPort_cfg, ih]

@[simp] theorem State.readsPort_memRead (n a : Nat) :
    (s.readsPort w n).memRead a = s.memRead a := by
  induction n with
  | zero => rfl
  | succ n ih => rw [State.readsPort_succ, State.readPort_memRead, ih]

/-- Reads in bounds take the slot one step each. -/
theorem State.readsPort_activeSlot {n : Nat} (h : ∀ i < n, s.portAddr w i < s.cfg.capacity) :
    (s.readsPort w n).activeSlot w = s.portSlot w n := by
  induction n with
  | zero => rfl
  | succ n ih =>
    have hslot := ih fun i hi => h i (Nat.lt_succ_of_lt hi)
    have hin : ((s.readsPort w n).activeSlot w).cur.toNat < (s.readsPort w n).cfg.capacity := by
      rw [hslot, State.readsPort_cfg]
      exact h n n.lt_succ_self
    rw [State.readsPort_succ, State.readPort_activeSlot hin, hslot, State.readsPort_cfg,
      State.portSlot_succ]

/-- The last of a row of reads in bounds returns the byte at its address. -/
theorem State.readsPort_rdata {n : Nat} (h : ∀ i < n + 1, s.portAddr w i < s.cfg.capacity) :
    (s.readsPort w (n + 1)).rdata = some (s.memRead (s.portAddr w n)) := by
  have hslot := State.readsPort_activeSlot fun i hi => h i (Nat.lt_succ_of_lt hi)
  have hin : ((s.readsPort w n).activeSlot w).cur.toNat < (s.readsPort w n).cfg.capacity := by
    rw [hslot, State.readsPort_cfg]
    exact h n n.lt_succ_self
  rw [State.readsPort_succ, State.readPort_rdata hin, hslot, State.readsPort_memRead]
  rfl

end

/-! ### Forward steps of a slot -/

/-- A slot stepped forward `n` times from its `cur`, modulo 2^24. -/
def Slot.forward (sl : Slot) (n : Nat) : Slot :=
  { sl with cur := BitVec.ofNat 24 (sl.cur.toNat + n * sl.step.toNat) }

theorem Slot.toNat_cur_forward (sl : Slot) (n : Nat) :
    (sl.forward n).cur.toNat = (sl.cur.toNat + n * sl.step.toNat) % 2 ^ 24 :=
  BitVec.toNat_ofNat _ _

theorem Slot.forward_zero (sl : Slot) : sl.forward 0 = sl := by
  simp [Slot.forward]

/-- A slot whose `cur` is at the default is the slot with `cur` put there. -/
theorem Slot.with_cur_dflt {sl : Slot} (h : sl.cur = sl.dflt) :
    { sl with cur := sl.dflt } = sl :=
  congrArg (fun a => { sl with cur := a }) h.symm

/-- The step from the `n`-th forward address is the `n + 1`-th one. -/
theorem Slot.toNat_stepped_cur_forward {c : Config} {sl : Slot} (hdir : sl.backward c = false)
    (n : Nat) :
    ((sl.forward n).stepped c).toNat = (sl.cur.toNat + (n + 1) * sl.step.toNat) % 2 ^ 24 := by
  rw [Slot.toNat_stepped_forward (sl := sl.forward n) hdir, Slot.toNat_cur_forward, Nat.mod_add_mod,
    Nat.add_one_mul, Nat.add_assoc]
  rfl

/-- A forward step that the limit does not stop. -/
theorem Slot.advanced_forward {c : Config} {sl : Slot} (hauto : sl.autoStep c = true)
    (hdir : sl.backward c = false) {n : Nat}
    (hlim : sl.wrapOnLimit c = false ∨
      (sl.cur.toNat + (n + 1) * sl.step.toNat) % 2 ^ 24 < sl.lim.toNat) :
    (sl.forward n).advanced c = sl.forward (n + 1) := by
  have hstepped := Slot.toNat_stepped_cur_forward hdir n
  have hnowrap : ¬ ((sl.forward n).wrapOnLimit c = true ∧ (sl.forward n).crossed c = true) := by
    rw [Slot.crossed_forward (sl := sl.forward n) hdir, hstepped]
    rintro ⟨hwrap, hle⟩
    exact hlim.elim (fun h => Bool.false_ne_true (h.symm.trans hwrap)) (Nat.not_lt.2 hle)
  have hcur : (sl.forward n).nextCur c = (sl.forward (n + 1)).cur := by
    apply BitVec.eq_of_toNat_eq
    rw [Slot.nextCur_of_not_wrap (sl := sl.forward n) hauto hnowrap, hstepped,
      Slot.toNat_cur_forward]
  rw [Slot.advanced, hcur]
  rfl

/-- The forward step that reaches the limit (rule R133). -/
theorem Slot.advanced_forward_wrap {c : Config} {sl : Slot} (hauto : sl.autoStep c = true)
    (hdir : sl.backward c = false) (hwrap : sl.wrapOnLimit c = true) {n : Nat}
    (hlim : sl.lim.toNat ≤ (sl.cur.toNat + (n + 1) * sl.step.toNat) % 2 ^ 24) :
    (sl.forward n).advanced c = { sl with cur := sl.dflt } := by
  have hcross : (sl.forward n).crossed c = true := by
    rw [Slot.crossed_forward (sl := sl.forward n) hdir, Slot.toNat_stepped_cur_forward hdir]
    exact hlim
  rw [Slot.advanced, Slot.nextCur_of_wrap (sl := sl.forward n) hauto ⟨hwrap, hcross⟩]
  rfl

/-- While no step reaches the limit, the accesses of a window go forward. -/
theorem State.portSlot_forward {s : State} {w : WindowNo} {n : Nat}
    (hauto : (s.activeSlot w).autoStep s.cfg = true)
    (hdir : (s.activeSlot w).backward s.cfg = false)
    (hlim : ∀ i < n, (s.activeSlot w).wrapOnLimit s.cfg = false ∨
      ((s.activeSlot w).cur.toNat + (i + 1) * (s.activeSlot w).step.toNat) % 2 ^ 24 <
        (s.activeSlot w).lim.toNat) :
    s.portSlot w n = (s.activeSlot w).forward n := by
  induction n with
  | zero => exact (Slot.forward_zero _).symm
  | succ n ih =>
    rw [State.portSlot_succ, ih fun i hi => hlim i (Nat.lt_succ_of_lt hi)]
    exact Slot.advanced_forward hauto hdir (hlim n n.lt_succ_self)

/-- Steps of at least 1 that go no further than 2^24 in all reach distinct addresses. -/
theorem forward_addresses_ne {start step n i j : Nat} (hstep : 1 ≤ step) (hspan : n * step ≤ 2 ^ 24)
    (hij : i < j) (hj : j < n) :
    (start + i * step) % 2 ^ 24 ≠ (start + j * step) % 2 ^ 24 := by
  have hi : (i + 1) * step ≤ j * step := Nat.mul_le_mul_right step hij
  have hjn : (j + 1) * step ≤ n * step := Nat.mul_le_mul_right step hj
  rw [Nat.add_one_mul] at hi hjn
  omega

/-! ### A sequence written and read back (rule R140) -/

section
variable {s : State} {w : WindowNo}

@[simp] theorem State.resetIndex_cfg : (s.resetIndex w).cfg = s.cfg := rfl

@[simp] theorem State.resetIndex_memRead (a : Nat) :
    (s.resetIndex w).memRead a = s.memRead a := rfl

theorem State.resetIndex_activeSlot :
    (s.resetIndex w).activeSlot w = { s.activeSlot w with cur := (s.activeSlot w).dflt } :=
  s.slot_setSlot_same _ _

/-- The addresses of the coming accesses depend on the parameters and the active slot alone. -/
theorem State.portAddr_congr {t : State} (hcfg : t.cfg = s.cfg)
    (hslot : t.activeSlot w = s.activeSlot w) (n : Nat) : t.portAddr w n = s.portAddr w n := by
  rw [State.portAddr, State.portSlot, hcfg, hslot, State.portAddr, State.portSlot]

end

/-- Settles O19: no access wraps, so that the addresses are those of forward steps, which are
distinct; after RESET_INDEX the slot is the first one again and the reads go the same way. -/
theorem writtenSequenceReadsBack : Obligations.WrittenSequenceReadsBack := by
  intro s w bs hauto hdir hlim hdef hstep hspan hin
  have hslot : ∀ n ≤ bs.length, s.portSlot w n = (s.activeSlot w).forward n := fun n hn =>
    State.portSlot_forward hauto hdir fun i hi =>
      hlim.imp id fun h => h i (Nat.lt_of_lt_of_le hi hn)
  have haddr : ∀ n ≤ bs.length, s.portAddr w n =
      ((s.activeSlot w).cur.toNat + n * (s.activeSlot w).step.toNat) % 2 ^ 24 := fun n hn => by
    rw [State.portAddr, hslot n hn, Slot.toNat_cur_forward]
  have hport : ∀ i < bs.length, s.portAddr w i < s.cfg.capacity := fun i hi =>
    haddr i hi.le ▸ hin i hi
  have hne : ∀ i j, i < j → j < bs.length → s.portAddr w i ≠ s.portAddr w j := fun i j hij hj => by
    rw [haddr i (hij.trans hj).le, haddr j hj.le]
    exact forward_addresses_ne hstep hspan hij hj
  refine ⟨⟨_, runEvents_writes w bs s, ?_⟩, fun j hj =>
    ⟨((s.writesPort w bs).resetIndex w).readsPort w (j + 1), ?_, ?_⟩⟩
  · rw [State.writesPort_slot hport, hslot _ le_rfl, Slot.toNat_cur_forward]
  · rw [runEvents_append _ _ (runEvents_writes w bs s),
      runEvents_cons _ (runEvent_wcmdResetIndex w _), runEvents_reads]
  · have hback : ((s.writesPort w bs).resetIndex w).activeSlot w = s.activeSlot w := by
      rw [State.resetIndex_activeSlot, State.writesPort_activeSlot hport, hslot _ le_rfl]
      exact Slot.with_cur_dflt hdef.symm
    have hsame := State.portAddr_congr (State.resetIndex_cfg.trans State.writesPort_cfg) hback
    rw [State.readsPort_rdata, hsame, State.resetIndex_memRead,
      State.writesPort_memRead hport hne hj]
    intro i hi
    rw [hsame, State.resetIndex_cfg, State.writesPort_cfg]
    exact hport i (by omega)

/-! ### A row of writes up to the limit (rule R141) -/

/-- The rounded-up quotient is the least number of steps that covers the distance. -/
theorem ceil_le_iff {d step : Nat} (hstep : 1 ≤ step) (i : Nat) :
    (d + step - 1) / step ≤ i ↔ d ≤ i * step := by
  rw [← Nat.ceilDiv_eq_add_pred_div, ceilDiv_le_iff_le_mul hstep, Nat.mul_comm]

/-- Writes that wrap with the last of them go to addresses below the limit and leave the slot as it
was. -/
theorem State.portSlot_wraps {s : State} {w : WindowNo} {n : Nat}
    (hauto : (s.activeSlot w).autoStep s.cfg = true)
    (hdir : (s.activeSlot w).backward s.cfg = false)
    (hwrap : (s.activeSlot w).wrapOnLimit s.cfg = true)
    (hcur : (s.activeSlot w).cur = (s.activeSlot w).dflt)
    (hbelow : (s.activeSlot w).dflt.toNat < (s.activeSlot w).lim.toNat)
    (hspan : (s.activeSlot w).lim.toNat + (s.activeSlot w).step.toNat ≤ 2 ^ 24)
    (hn : ∀ i, n ≤ i ↔ (s.activeSlot w).lim.toNat - (s.activeSlot w).dflt.toNat ≤
      i * (s.activeSlot w).step.toNat) :
    (∀ i < n, s.portAddr w i < (s.activeSlot w).lim.toNat) ∧ s.portSlot w n = s.activeSlot w := by
  have hreach : ∀ i < n,
      ((s.activeSlot w).cur.toNat + i * (s.activeSlot w).step.toNat) % 2 ^ 24 <
        (s.activeSlot w).lim.toNat := fun i hi => by
    have hlt := mt (hn i).2 (Nat.not_le.2 hi)
    rw [hcur]
    omega
  have hslot : ∀ i < n, s.portSlot w i = (s.activeSlot w).forward i := fun i hi =>
    State.portSlot_forward hauto hdir fun j hj => .inr (hreach (j + 1) (by omega))
  refine ⟨fun i hi => ?_, ?_⟩
  · rw [State.portAddr, hslot i hi, Slot.toNat_cur_forward]
    exact hreach i hi
  · cases n with
    | zero =>
      have := (hn 0).1 le_rfl
      omega
    | succ m =>
      have hlast := (hn (m + 1)).1 le_rfl
      have hbefore := mt (hn m).2 (Nat.not_le.2 m.lt_succ_self)
      have hlim : (s.activeSlot w).lim.toNat ≤
          ((s.activeSlot w).cur.toNat + (m + 1) * (s.activeSlot w).step.toNat) % 2 ^ 24 := by
        rw [Nat.add_one_mul] at hlast ⊢
        rw [hcur]
        omega
      rw [State.portSlot_succ, hslot m m.lt_succ_self,
        Slot.advanced_forward_wrap hauto hdir hwrap hlim, Slot.with_cur_dflt hcur]

/-- Settles O20: the last write of the list takes the slot to the limit and so back to `def`. -/
theorem wrappingWritesComeBackToTheDefault : Obligations.WrappingWritesComeBackToTheDefault := by
  intro s w bs b hauto hdir hwrap hcur hbelow hstep hspan hcap hlen
  obtain ⟨haddr, hslot⟩ := State.portSlot_wraps (n := bs.length) hauto hdir hwrap hcur hbelow hspan
    (hlen ▸ ceil_le_iff hstep)
  have hport : ∀ i < bs.length, s.portAddr w i < s.cfg.capacity := fun i hi =>
    Nat.lt_of_lt_of_le (haddr i hi) hcap
  refine ⟨⟨_, runEvents_writes w bs s, (State.writesPort_slot hport).trans hslot⟩,
    _, runEvents_writes w (bs ++ [b]) s, ?_⟩
  have hback : (s.writesPort w bs).activeSlot w = s.activeSlot w :=
    (State.writesPort_activeSlot hport).trans hslot
  have hin : ((s.writesPort w bs).activeSlot w).cur.toNat < (s.writesPort w bs).cfg.capacity := by
    rw [hback, State.writesPort_cfg, hcur]
    exact Nat.lt_of_lt_of_le hbelow hcap
  rw [State.writesPort_append_singleton, State.writePort_memRead b hin, hback, hcur, if_pos rfl]

end Sys2Proof.Machine

namespace Sys2Proof.Machine

/-! ### The byte lanes of an address as rules R151 and R153 write them -/

theorem withAddrLow_eq (a : Addr) (b : Byte) : withAddrLow a b = a.extractLsb' 8 16 ++ b := by
  apply BitVec.eq_of_getLsbD_eq
  intro i hi
  simp only [withAddrLow, addrHigh, addrMid, BitVec.getLsbD_append, BitVec.getLsbD_extractLsb']
  grind

theorem withAddrHigh_eq (a : Addr) (b : Byte) : withAddrHigh a b = b ++ a.extractLsb' 0 16 := by
  apply BitVec.eq_of_getLsbD_eq
  intro i hi
  simp only [withAddrHigh, addrMid, addrLow, BitVec.getLsbD_append, BitVec.getLsbD_extractLsb']
  grind

/-! ### The registers behind a configuration field (rule R107)

A field is a byte of one slot or of the DMA record, so that reading and replacing it are functions of
these two alone. -/

/-- A slot with the byte that a field names replaced; the slot itself where the field is none of its
bytes. -/
def Slot.withField (sl : Slot) (b : Byte) : CfgField → Slot
  | .curL => { sl with cur := withAddrLow sl.cur b }
  | .curM => { sl with cur := withAddrMid sl.cur b }
  | .curH => { sl with cur := withAddrHigh sl.cur b }
  | .defL => { sl with dflt := withAddrLow sl.dflt b }
  | .defM => { sl with dflt := withAddrMid sl.dflt b }
  | .defH => { sl with dflt := withAddrHigh sl.dflt b }
  | .limL => { sl with lim := withAddrLow sl.lim b }
  | .limM => { sl with lim := withAddrMid sl.lim b }
  | .limH => { sl with lim := withAddrHigh sl.lim b }
  | .step => { sl with step := b }
  | .flags => { sl with flags := b }
  | .dmaSrc | .dmaDst | .dmaCountL | .dmaCountH => sl

/-- The DMA record with the byte that a field names replaced; the record itself where the field is a
byte of a slot. -/
def DmaConfig.withField (d : DmaConfig) (b : Byte) : CfgField → DmaConfig
  | .dmaSrc => { d with src := b }
  | .dmaDst => { d with dst := b }
  | .dmaCountL => { d with count := withLowByte d.count b }
  | .dmaCountH => { d with count := withHighByte d.count b }
  | _ => d

/-- The byte that a field names, of a slot and the DMA record. -/
def registerByte (sl : Slot) (d : DmaConfig) : CfgField → Byte
  | .curL => addrLow sl.cur
  | .curM => addrMid sl.cur
  | .curH => addrHigh sl.cur
  | .defL => addrLow sl.dflt
  | .defM => addrMid sl.dflt
  | .defH => addrHigh sl.dflt
  | .limL => addrLow sl.lim
  | .limM => addrMid sl.lim
  | .limH => addrHigh sl.lim
  | .step => sl.step
  | .flags => sl.flags
  | .dmaSrc => d.src
  | .dmaDst => d.dst
  | .dmaCountL => lowByte d.count
  | .dmaCountH => highByte d.count

theorem fieldByte_eq_registerByte (s : State) (k : SlotIx) (x : CfgField) :
    fieldByte s k x = registerByte (s.slot k) s.dma x := by
  cases x <;> rfl

section
variable (sl : Slot) (d : DmaConfig) (b : Byte)

/-- The byte replaced is the byte given. -/
theorem registerByte_withField_same (x : CfgField) :
    registerByte (sl.withField b x) (d.withField b x) x = b := by
  cases x with
  | step | flags | dmaSrc | dmaDst => rfl
  | _ => simp [registerByte, Slot.withField, DmaConfig.withField]

/-- The other bytes are kept: those of the same register by the laws of its lanes, those of another
register because it is not touched. The last case is that of the fields that are whole registers. -/
theorem registerByte_withField_other {x y : CfgField} (hne : y ≠ x) :
    registerByte (sl.withField b x) (d.withField b x) y = registerByte sl d y := by
  cases x with
  | curL | curM | curH =>
    cases y with
    | curL | curM | curH => simp [registerByte, Slot.withField] at hne ⊢
    | _ => rfl
  | defL | defM | defH =>
    cases y with
    | defL | defM | defH => simp [registerByte, Slot.withField] at hne ⊢
    | _ => rfl
  | limL | limM | limH =>
    cases y with
    | limL | limM | limH => simp [registerByte, Slot.withField] at hne ⊢
    | _ => rfl
  | dmaCountL | dmaCountH =>
    cases y with
    | dmaCountL | dmaCountH => simp [registerByte, DmaConfig.withField] at hne ⊢
    | _ => rfl
  | step | flags | dmaSrc | dmaDst =>
    cases y with
    | step | flags | dmaSrc | dmaDst =>
      simp [registerByte, Slot.withField, DmaConfig.withField] at hne ⊢
    | _ => rfl

end

/-! ### The state after a field of slot `k` is set -/

/-- The state with the byte that a field of slot `k` names replaced. -/
def State.setField (s : State) (k : SlotIx) (x : CfgField) (b : Byte) : State :=
  { s.setSlot k ((s.slot k).withField b x) with dma := s.dma.withField b x }

section
variable (s : State) (k : SlotIx) (x : CfgField) (b : Byte)

@[simp] theorem State.setField_cfg : (s.setField k x b).cfg = s.cfg := rfl
@[simp] theorem State.setField_win : (s.setField k x b).win = s.win := rfl
@[simp] theorem State.setField_irq : (s.setField k x b).irq = s.irq := rfl
@[simp] theorem State.setField_status : (s.setField k x b).status = s.status := rfl
@[simp] theorem State.setField_xfer : (s.setField k x b).xfer = s.xfer := rfl
@[simp] theorem State.setField_schedule : (s.setField k x b).schedule = s.schedule := rfl
@[simp] theorem State.setField_memRead (a : Nat) :
    (s.setField k x b).memRead a = s.memRead a := rfl
@[simp] theorem State.setField_dma : (s.setField k x b).dma = s.dma.withField b x := rfl

@[simp] theorem State.setField_slot_same :
    (s.setField k x b).slot k = (s.slot k).withField b x :=
  s.slot_setSlot_same k _

theorem State.setField_slot_other {j : SlotIx} (h : j ≠ k) : (s.setField k x b).slot j = s.slot j :=
  s.slot_setSlot_other k j _ h.symm

theorem State.setField_onlyChanges : OnlyChanges [.slots, .dma] s (s.setField k x b) := by
  simp [onlyChanges_iff]

theorem State.fieldByte_setField_same : fieldByte (s.setField k x b) k x = b := by
  rw [fieldByte_eq_registerByte, State.setField_slot_same, State.setField_dma,
    registerByte_withField_same]

theorem State.fieldByte_setField_other {y : CfgField} (hne : y ≠ x) :
    fieldByte (s.setField k x b) k y = fieldByte s k y := by
  rw [fieldByte_eq_registerByte, State.setField_slot_same, State.setField_dma,
    registerByte_withField_other _ _ _ hne, fieldByte_eq_registerByte]

@[simp] theorem State.setSlot_slot_self : s.setSlot k (s.slot k) = s := by
  simp [State.setSlot, State.slot]

variable {s k x b}

/-- A field that is no byte of the DMA record changes its slot alone. -/
theorem State.setField_onlyChangesSlot (h : s.dma.withField b x = s.dma) :
    OnlyChangesSlot k s (s.setField k x b) :=
  ⟨by simp [onlyChanges_iff, h], fun _ hj => s.setField_slot_other k x b hj⟩

/-- A field that is no byte of a slot changes the DMA record alone. -/
theorem State.setField_onlyChangesDma (h : (s.slot k).withField b x = s.slot k) :
    OnlyChanges [.dma] s (s.setField k x b) := by
  have hslots (j : SlotIx) : (s.setField k x b).slot j = s.slot j := by
    obtain rfl | hj := eq_or_ne j k
    · rw [State.setField_slot_same, h]
    · exact s.setField_slot_other k x b hj
  simp [onlyChanges_iff, hslots]

end

/-! ### A configuration row as an instruction of its own (rule R150) -/

/-- A write that sets nothing changes no part of the state. -/
theorem State.acknowledge_onlyChanges (s : State) : OnlyChanges [] s s.acknowledge :=
  ⟨rfl, rfl, fun p _ => p.same_of_fields (by cases p <;> rfl)⟩

section
variable (x : CfgField) (w : WindowNo) (s : State)

theorem exec_row_get :
    exec (x.row w .get) s = .next (s.reply (fieldByte s (s.activeIx w) x)) := by
  cases x <;> rfl

theorem exec_row_set (b : Byte) :
    exec (x.row w (.set b)) s = .next (s.setField (s.activeIx w) x b).acknowledge := by
  cases x with
  | dmaSrc | dmaDst | dmaCountL | dmaCountH =>
    rw [State.setField, Slot.withField, State.setSlot_slot_self]
    rfl
  | _ => rfl

theorem row_get_reads :
    ∃ t, exec (x.row w .get) s = .next t ∧ t.rdata = some (fieldByte s (s.activeIx w) x) ∧
      OnlyChanges [] s t :=
  ⟨_, exec_row_get x w s, rfl, s.reply_onlyChanges _⟩

variable {b : Byte}

theorem row_set_replaces_slot {sl : Slot} (hslot : (s.activeSlot w).withField b x = sl)
    (hdma : s.dma.withField b x = s.dma) :
    ∃ t, exec (x.row w (.set b)) s = .next t ∧ t.slot (s.activeIx w) = sl ∧
      OnlyChangesSlot (s.activeIx w) s t := by
  obtain ⟨hparts, hslots⟩ := State.setField_onlyChangesSlot (k := s.activeIx w) hdma
  exact ⟨_, exec_row_set x w s b, (s.setField_slot_same _ x b).trans hslot, hparts.answer none,
    hslots⟩

theorem row_set_replaces_dma {d : DmaConfig} (hdma : s.dma.withField b x = d)
    (hslot : (s.activeSlot w).withField b x = s.activeSlot w) :
    ∃ t, exec (x.row w (.set b)) s = .next t ∧ t.dma = d ∧ OnlyChanges [.dma] s t :=
  ⟨_, exec_row_set x w s b, hdma, (State.setField_onlyChangesDma hslot).answer none⟩

end

/-- Settles O21: `Slot.withField` on the three bytes of `cur`. -/
theorem curFieldsAreTheBytesOfCur : Obligations.CurFieldsAreTheBytesOfCur := fun s w b =>
  ⟨row_get_reads .curL w s, row_get_reads .curM w s, row_get_reads .curH w s,
    row_set_replaces_slot .curL w s (by rw [Slot.withField, withAddrLow_eq]) rfl,
    row_set_replaces_slot .curM w s rfl rfl,
    row_set_replaces_slot .curH w s (by rw [Slot.withField, withAddrHigh_eq]) rfl⟩

/-- Settles O22: `Slot.withField` on the three bytes of `def`. -/
theorem defFieldsAreTheBytesOfDef : Obligations.DefFieldsAreTheBytesOfDef := fun s w b =>
  ⟨row_get_reads .defL w s, row_get_reads .defM w s, row_get_reads .defH w s,
    row_set_replaces_slot .defL w s (by rw [Slot.withField, withAddrLow_eq]) rfl,
    row_set_replaces_slot .defM w s rfl rfl,
    row_set_replaces_slot .defH w s (by rw [Slot.withField, withAddrHigh_eq]) rfl⟩

/-- Settles O23: `Slot.withField` on the three bytes of `lim`. -/
theorem limFieldsAreTheBytesOfLim : Obligations.LimFieldsAreTheBytesOfLim := fun s w b =>
  ⟨row_get_reads .limL w s, row_get_reads .limM w s, row_get_reads .limH w s,
    row_set_replaces_slot .limL w s (by rw [Slot.withField, withAddrLow_eq]) rfl,
    row_set_replaces_slot .limM w s rfl rfl,
    row_set_replaces_slot .limH w s (by rw [Slot.withField, withAddrHigh_eq]) rfl⟩

/-- Settles O24: `Slot.withField` replaces these two registers as a whole. -/
theorem stepAndFlagsFieldsAreWholeRegisters : Obligations.StepAndFlagsFieldsAreWholeRegisters :=
  fun s w _ => ⟨row_get_reads .step w s, row_get_reads .flags w s,
    row_set_replaces_slot .step w s rfl rfl, row_set_replaces_slot .flags w s rfl rfl⟩

/-- Settles O25: no DMA field is a byte of the active slot, so that its set changes the record
alone. -/
theorem dmaFieldsAreTheGlobalRecord : Obligations.DmaFieldsAreTheGlobalRecord := fun s w _ =>
  ⟨row_get_reads .dmaSrc w s, row_get_reads .dmaDst w s, row_get_reads .dmaCountL w s,
    row_get_reads .dmaCountH w s,
    row_set_replaces_dma .dmaSrc w s rfl rfl, row_set_replaces_dma .dmaDst w s rfl rfl,
    row_set_replaces_dma .dmaCountL w s rfl rfl, row_set_replaces_dma .dmaCountH w s rfl rfl⟩

/-! ### CFG_DATA under the id of a field and under no field's id (rule R166, rule R167) -/

section
variable {s : State} {w : WindowNo}

/-- Under an injective CFG_ID an access of CFG_DATA runs the row of the field selected. -/
theorem consultCfgRow_of_field {x : CfgField} (a : CfgAccess) (hids : s.cfg.cfgIds.wf)
    (hx : (s.window w).field = s.cfg.cfgIds.idOf x) :
    consultCfgRow w a s = exec (x.row w a) s := by
  have hfield : s.cfg.cfgIds.fieldOf (s.window w).field = some x := by rw [hx, fieldOf_idOf _ hids]
  rw [consultCfgRow_eq_exec, decodeCfg_of_fieldOf w a hfield]

/-- An access of CFG_DATA under an id that CFG_ID does not assign runs CFG.UNKNOWN. -/
theorem consultCfgRow_of_unassigned (a : CfgAccess)
    (hx : ∀ x : CfgField, s.cfg.cfgIds.idOf x ≠ (s.window w).field) :
    consultCfgRow w a s = exec (.cfgUnknown w a (s.window w).field) s := by
  rw [consultCfgRow_eq_exec, decodeCfg_of_fieldOf_none w a ((fieldOf_eq_none _ _).2 hx)]

end

/-- Settles O26: CFG_DATA under an unassigned id runs CFG.UNKNOWN, which answers 0x00 or nothing. -/
theorem unknownFieldsReadZeroAndIgnoreWrites : Obligations.UnknownFieldsReadZeroAndIgnoreWrites := by
  intro s w f b
  have hget (g : Byte) : ∃ t, exec (.cfgUnknown w .get g) s = .next t ∧ t.rdata = some 0x00#8 ∧
      OnlyChanges [] s t := ⟨_, rfl, rfl, s.reply_onlyChanges _⟩
  have hset (g : Byte) : ∃ t, exec (.cfgUnknown w (.set b) g) s = .next t ∧ OnlyChanges [] s t :=
    ⟨_, rfl, s.acknowledge_onlyChanges⟩
  refine ⟨hget f, hset f, fun hx => ?_⟩
  obtain ⟨t, ht, hread⟩ := hget (s.window w).field
  obtain ⟨u, hu, hframe⟩ := hset (s.window w).field
  exact ⟨⟨t, (consultCfgRow_of_unassigned .get hx).trans ht, hread⟩,
    u, (consultCfgRow_of_unassigned (.set b) hx).trans hu, hframe⟩

/-- Settles O27: CFG_DATA runs the row of the field selected, and `State.setField` says what a set
leaves. -/
theorem cfgDataAccessesTheSelectedByte : Obligations.CfgDataAccessesTheSelectedByte := by
  intro s w x b hids hx
  obtain ⟨t, ht, hread⟩ := row_get_reads x w s
  refine ⟨⟨t, (consultCfgRow_of_field .get hids hx).trans ht, hread⟩,
    _, (consultCfgRow_of_field (.set b) hids hx).trans (exec_row_set x w s b),
    s.fieldByte_setField_same _ x b, fun y hy => s.fieldByte_setField_other _ x b hy,
    fun j hj => s.setField_slot_other _ x b hj, (s.setField_onlyChanges _ x b).answer none⟩

theorem runEvent_wrCfgData (w : WindowNo) (b : Byte) (s : State) :
    runEvent (transaction (.wrCfgData w b)) s = exec (.wrCfgData w b) s :=
  runEvent_transaction (ids := defaultCfgIds) rfl rfl s

theorem runEvent_rdCfgData (w : WindowNo) (s : State) :
    runEvent (transaction (.rdCfgData w)) s = exec (.rdCfgData w) s :=
  runEvent_transaction (ids := defaultCfgIds) rfl rfl s

/-- Settles O28: a write of CFG_DATA leaves the parameters and the windows, so that the read is of the
same field. -/
theorem cfgFieldReadsBackWhatWasWritten : Obligations.CfgFieldReadsBackWhatWasWritten := by
  intro s w x b hids hx
  obtain ⟨-, t, hwrite, hbyte, -, -, hcfg, -, hkept⟩ := cfgDataAccessesTheSelectedByte s w x b hids hx
  have hwin : t.window w = s.window w := hkept .win (by decide) (windowIx w)
  obtain ⟨⟨u, hread, hdata, -⟩, -⟩ :=
    cfgDataAccessesTheSelectedByte t w x b (hcfg ▸ hids) (by rw [hwin, hcfg, hx])
  refine ⟨u, ?_, ?_⟩
  · rw [runEvents_cons _ ((runEvent_wrCfgData w b s).trans hwrite),
      runEvents_cons _ ((runEvent_rdCfgData w t).trans hread), runEvents]
  · rw [hdata, State.activeIx, hwin]
    exact congrArg some hbyte

end Sys2Proof.Machine

namespace Sys2Proof.Machine

/-! ### Writes that are ignored (rule R181, rule R185, rule R191, rule R197, rule R244 to rule R246,
rule R281) -/

/-- Settles O14: the meaning of each of the eight rows is to acknowledge the write. -/
theorem ignoredWritesChangeNothing : Obligations.IgnoredWritesChangeNothing := by
  intro s w off low sreg b i hi
  have hexec : exec i s = .next s.acknowledge := by
    simp only [List.mem_cons, List.not_mem_nil, or_false] at hi
    obtain rfl | rfl | rfl | rfl | rfl | rfl | rfl | rfl := hi <;> rfl
  exact ⟨_, hexec, s.acknowledge_onlyChanges⟩

/-! ### Commands that move an address of the active slot (rule R182, rule R183, rule R184) -/

/-- Replacing slot `k` changes no other slot and no other part. -/
theorem State.setSlot_onlyChangesSlot (s : State) (k : SlotIx) (sl : Slot) :
    OnlyChangesSlot k s (s.setSlot k sl) :=
  ⟨by simp [onlyChanges_iff], fun j hj => s.slot_setSlot_other k j sl hj.symm⟩

/-- A write whose meaning is to replace the active slot leaves that slot, and changes only it. -/
theorem replaces_activeSlot {i : Instr} {w : WindowNo} {s : State} {sl : Slot}
    (hexec : exec i s = .next (s.setSlot (s.activeIx w) sl).acknowledge) :
    ∃ t, exec i s = .next t ∧ t.slot (s.activeIx w) = sl ∧ OnlyChangesSlot (s.activeIx w) s t := by
  obtain ⟨hparts, hslots⟩ := s.setSlot_onlyChangesSlot (s.activeIx w) sl
  exact ⟨_, hexec, s.slot_setSlot_same _ sl, hparts.answer none, hslots⟩

/-- Settles O29: by the meaning of each command, the active slot is replaced by itself with that
address moved. -/
theorem windowCommandsMoveTheActiveSlotsAddresses :
    Obligations.WindowCommandsMoveTheActiveSlotsAddresses :=
  fun _ _ => ⟨replaces_activeSlot rfl, replaces_activeSlot rfl, replaces_activeSlot rfl⟩

end Sys2Proof.Machine

namespace Sys2Proof.Machine

/-! ### Shared commands that reset (rule R192, rule R193, rule R194, rule R196) -/

theorem State.resetAllSlots_onlyChanges (s : State) : OnlyChanges [.slots] s s.resetAllSlots := by
  simp [onlyChanges_iff]

theorem State.irqClearAll_onlyChanges (s : State) : OnlyChanges [.irq] s s.irqClearAll := by
  simp [onlyChanges_iff]

/-- `ENGINE_INIT()` leaves the windows and the interrupt state (rule R361). -/
theorem State.engineInit_onlyChanges (s : State) :
    OnlyChanges [.slots, .dma, .store, .xfer, .status] s s.engineInit := by
  simp [onlyChanges_iff]

/-- What changes over two operations in a row is what one of them changes. -/
theorem OnlyChanges.trans {ps qs : List Part} {s t u : State} (hst : OnlyChanges ps s t)
    (htu : OnlyChanges qs t u) : OnlyChanges (ps ++ qs) s u := by
  obtain ⟨hcfg, hsched, hparts⟩ := hst
  obtain ⟨hcfg', hsched', hparts'⟩ := htu
  refine ⟨hcfg'.trans hcfg, hsched'.trans hsched, fun p hp => ?_⟩
  obtain ⟨hps, hqs⟩ := not_or.1 (mt List.mem_append.2 hp)
  have first := hparts p hps
  have second := hparts' p hqs
  cases p with
  | slots | win | store => exact fun k => (second k).trans (first k)
  | dma | irq | status | xfer => exact second.trans first

/-- With no cause pending the IRQ line is deasserted, whatever the mask and the enable (rule R318). -/
@[simp] theorem State.irqClearAll_irqLine (s : State) : s.irqClearAll.irqLine = false := by
  simp [State.irqLine, Irq.pending]

@[simp] theorem State.engineInit_memRead (s : State) (a : Nat) : s.engineInit.memRead a = 0x00#8 :=
  rfl

@[simp] theorem State.hardReset_memRead (s : State) (a : Nat) : s.hardReset.memRead a = 0x00#8 :=
  rfl

/-- Settles O35: `slot_resetAllSlots` at every slot. -/
theorem resetAllRestoresEveryCurToItsDef : Obligations.ResetAllRestoresEveryCurToItsDef := fun s =>
  ⟨_, rfl, s.slot_resetAllSlots, s.resetAllSlots_onlyChanges.answer none⟩

/-- Settles O37: `irq_clear_all()` leaves no cause that could hold the line. -/
theorem clearIrqClearsEveryCauseBit : Obligations.ClearIrqClearsEveryCauseBit := fun s =>
  ⟨_, rfl, rfl, s.irqClearAll_irqLine, s.irqClearAll_onlyChanges.answer none⟩

/-- Settles O36: `ENGINE_INIT()` gives the engine's values, `irq_clear_all()` the cause and the line,
and the frame is that of the one after the other. -/
theorem factoryResetReinitialisesTheEngine : Obligations.FactoryResetReinitialisesTheEngine :=
  fun s => ⟨_, rfl, s.slot_engineInit, rfl, s.engineInit_memRead, rfl, rfl, rfl,
    s.engineInit.irqClearAll_irqLine,
    (s.engineInit_onlyChanges.trans s.engineInit.irqClearAll_onlyChanges).answer none⟩

/-- Settles O38: the slots and the windows element by element, the rest by the definition of
`RESET()`. -/
theorem systemResetResetsEveryElement : Obligations.SystemResetResetsEveryElement := fun s =>
  ⟨_, rfl, rfl, initialWindows_get, s.slot_hardReset, rfl, s.hardReset_memRead, rfl, rfl, rfl, rfl⟩

end Sys2Proof.Machine

namespace Sys2Proof.Machine

/-! ### The outcome of COPY_BLOCK, by its three checks (rule R210, rule R225) -/

section
variable {s : State}

/-- A count of 0 ends the command before any other check (rule R224). -/
theorem State.copyBlock_of_zero (h : s.dma.count.toNat = 0) : s.copyBlock = s := by
  have hcount : s.dma.count = 0x0000#16 := BitVec.eq_of_toNat_eq h
  obtain ⟨-, hs⟩ | ⟨hne, -⟩ | ⟨hne, -⟩ := s.copyBlock_cases
  · exact hs
  · exact absurd hcount hne
  · exact absurd hcount hne

theorem State.count_ne_zero (h : 1 ≤ s.dma.count.toNat) : s.dma.count ≠ 0x0000#16 := by
  intro hz
  simp [hz] at h

/-- Bounds come before the check for a transfer in flight (rule R212). -/
theorem State.copyBlock_of_outside (hcount : 1 ≤ s.dma.count.toNat)
    (h : s.cfg.capacity < (s.slot s.dma.src).cur.toNat + s.dma.count.toNat ∨
      s.cfg.capacity < (s.slot s.dma.dst).cur.toNat + s.dma.count.toNat) :
    s.copyBlock = s.rejectCopyBounds := by
  obtain ⟨hz, -⟩ | ⟨-, -, hs⟩ | ⟨-, hsrc, hdst, -⟩ := s.copyBlock_cases
  · exact absurd hz (State.count_ne_zero hcount)
  · exact hs
  · omega

/-- The status bit DMA_ACTIVE is the last check (rule R213). -/
theorem State.copyBlock_of_active (hcount : 1 ≤ s.dma.count.toNat)
    (hsrc : (s.slot s.dma.src).cur.toNat + s.dma.count.toNat ≤ s.cfg.capacity)
    (hdst : (s.slot s.dma.dst).cur.toNat + s.dma.count.toNat ≤ s.cfg.capacity)
    (hactive : s.status.dmaActive = true) : s.copyBlock = s.raiseDmaError := by
  obtain ⟨hz, -⟩ | ⟨-, hout, -⟩ | ⟨-, -, -, ⟨-, hs⟩ | ⟨hidle, -⟩⟩ := s.copyBlock_cases
  · exact absurd hz (State.count_ne_zero hcount)
  · omega
  · exact hs
  · simp [hactive] at hidle

/-- A copy that passes every check is accepted (rule R214). -/
theorem State.copyBlock_of_idle (hcount : 1 ≤ s.dma.count.toNat)
    (hsrc : (s.slot s.dma.src).cur.toNat + s.dma.count.toNat ≤ s.cfg.capacity)
    (hdst : (s.slot s.dma.dst).cur.toNat + s.dma.count.toNat ≤ s.cfg.capacity)
    (hidle : s.status.dmaActive = false) :
    s.copyBlock = s.acceptCopy (s.slot s.dma.src).cur (s.slot s.dma.dst).cur s.dma.count := by
  obtain ⟨hz, -⟩ | ⟨-, hout, -⟩ | ⟨-, -, -, ⟨hactive, -⟩ | ⟨-, hs⟩⟩ := s.copyBlock_cases
  · exact absurd hz (State.count_ne_zero hcount)
  · omega
  · simp [hidle] at hactive
  · exact hs

end

theorem exec_scmdCopyBlock (s : State) : exec .scmdCopyBlock s = .next (s.copyBlock.answer none) :=
  rfl

theorem runEvent_scmdCopyBlock (s : State) :
    runEvent (transaction .scmdCopyBlock) s = .next (s.copyBlock.answer none) :=
  runEvent_transaction (ids := defaultCfgIds) rfl rfl s

/-! ### What the operations of a copy change -/

/-- DmaError sets its two bits alone (rule R11). -/
theorem State.raiseDmaError_onlyChanges (s : State) :
    OnlyChanges [.status, .irq] s s.raiseDmaError := by
  simp [onlyChanges_iff]

theorem State.rejectCopyBounds_onlyChanges (s : State) :
    OnlyChanges [.status, .irq] s s.rejectCopyBounds := by
  obtain ⟨-, h⟩ | ⟨-, h⟩ := s.rejectCopyBounds_cases
  · exact h ▸ s.raiseDmaError_onlyChanges
  · simp [onlyChanges_iff, h]

theorem State.acceptCopy_onlyChanges (s : State) (src dst : Addr) (n : Half) :
    OnlyChanges [.status, .xfer] s (s.acceptCopy src dst n) := by
  simp [onlyChanges_iff]

theorem State.moveByte_onlyChanges (s : State) (x : Xfer) (i : Nat) :
    OnlyChanges [.store, .xfer] s (s.moveByte x i) := by
  simp [onlyChanges_iff]

theorem State.completeTransfer_onlyChanges (s : State) :
    OnlyChanges [.xfer, .status, .irq] s s.completeTransfer := by
  simp [onlyChanges_iff]

/-- The bits that a rejected copy sets where MemoryError is not raised with it (rule R212). -/
theorem State.rejectCopyBounds_of_not_memoryError {s : State}
    (h : s.cfg.copyOobRaisesMemoryError = false) :
    s.rejectCopyBounds.status = { s.status with dmaError := true } ∧
      s.rejectCopyBounds.irq = { s.irq with cause := s.irq.cause ||| causeDmaError } := by
  simp [State.rejectCopyBounds, h]

/-- The bits that a rejected copy sets where it raises both errors (rule R212). -/
theorem State.rejectCopyBounds_of_memoryError {s : State}
    (h : s.cfg.copyOobRaisesMemoryError = true) :
    s.rejectCopyBounds.status = { s.status with dmaError := true, memoryError := true } ∧
      s.rejectCopyBounds.irq =
        { s.irq with cause := s.irq.cause ||| (causeDmaError ||| causeMemoryError) } := by
  simp [State.rejectCopyBounds, h, BitVec.or_assoc]

/-! ### The bytes that a row of moves leaves -/

/-- The store after the bytes of the indices `order` have been moved, one after another. -/
def Memory.copyBytes (m : Memory) (src dst : Nat) (order : List Nat) : Memory :=
  order.foldl (fun m i => m.write (dst + i) (m.read (src + i))) m

section
variable {m : Memory} {src dst : Nat} {order : List Nat}

@[simp] theorem Memory.copyBytes_nil : m.copyBytes src dst [] = m := rfl

@[simp] theorem Memory.copyBytes_cons (i : Nat) : m.copyBytes src dst (i :: order) =
    (m.write (dst + i) (m.read (src + i))).copyBytes src dst order := rfl

theorem Memory.read_copyBytes_other {a : Nat} (ha : ∀ i ∈ order, dst + i ≠ a) :
    (m.copyBytes src dst order).read a = m.read a := by
  induction order generalizing m with
  | nil => rfl
  | cons i order ih =>
    obtain ⟨hi, horder⟩ := List.forall_mem_cons.1 ha
    rw [Memory.copyBytes_cons, ih horder, Memory.read_write_other _ _ _ _ hi]

/-- Where no move writes a byte that a move of another index reads, each byte moved is the one that
stood at its source before all moves. -/
theorem Memory.read_copyBytes
    (hapart : ∀ i ∈ order, ∀ j ∈ order, dst + i = src + j → i = j) {j : Nat} (hj : j ∈ order) :
    (m.copyBytes src dst order).read (dst + j) = m.read (src + j) := by
  induction order generalizing m with
  | nil => cases hj
  | cons i order ih =>
    rw [Memory.copyBytes_cons]
    by_cases hlater : j ∈ order
    · have hrest : ∀ k ∈ order, ∀ l ∈ order, dst + k = src + l → k = l := fun k hk l hl =>
        hapart k (List.mem_cons_of_mem i hk) l (List.mem_cons_of_mem i hl)
      rw [ih hrest hlater, Memory.read_write]
      split
      next hread => rw [hapart i List.mem_cons_self j hj hread]
      next => rfl
    · obtain rfl : j = i := (List.mem_cons.1 hj).resolve_right hlater
      have hleft : ∀ k ∈ order, dst + k ≠ dst + j := fun k hk he =>
        hlater (Nat.add_left_cancel he ▸ hk)
      rw [Memory.read_copyBytes_other hleft, Memory.read_write_same]

/-- A range copied onto itself is left as it is (rule R223). -/
theorem Memory.read_copyBytes_self (a : Nat) : (m.copyBytes src src order).read a = m.read a := by
  by_cases ha : ∃ j ∈ order, src + j = a
  · obtain ⟨j, hj, rfl⟩ := ha
    exact Memory.read_copyBytes (fun _ _ _ _ => Nat.add_left_cancel) hj
  · exact Memory.read_copyBytes_other fun i hi he => ha ⟨i, hi, he⟩

end

/-! ### A block copy from acceptance to completion (rule R214, rule R217, rule R219) -/

/-- The state after the bytes of the transfer `x` have been moved in the order given, none left. -/
def State.movedAll (s : State) (x : Xfer) (order : List Nat) : State :=
  { s with
    store := s.store.copyBytes x.src.toNat x.dst.toNat order
    xfer := some { x with todo := [] } }

theorem State.movedAll_xfer (s : State) (x : Xfer) (order : List Nat) :
    (s.movedAll x order).xfer = some { x with todo := [] } := rfl

/-- The moves of a transfer run in every order of the indices still to do. -/
theorem runEvents_moves {s : State} {x : Xfer} {order : List Nat} (hx : s.xfer = some x)
    (hinv : x.Inv s.cfg.capacity) (horder : order.Perm x.todo) :
    runEvents (order.map Event.dmaMove) s = .next (s.movedAll x order) := by
  induction order generalizing s x with
  | nil =>
    have htodo : x.todo = [] := List.nil_perm.1 horder
    have hdone : { x with todo := [] } = x := by rw [← htodo]
    rw [State.movedAll, hdone, ← hx]
    rfl
  | cons i order ih =>
    have hi : i ∈ x.todo := horder.mem_iff.1 List.mem_cons_self
    have hbelow := hinv.todo_below i hi
    have hsrc := hinv.src_inside
    have hdst := hinv.dst_inside
    have hmove : runEvent (.dmaMove i) s = .next (s.moveByte x i) :=
      State.dmaMove_eq hx hi (by omega) (by omega)
    rw [List.map_cons, runEvents_cons _ hmove,
      ih (s.moveByte_xfer x i) (hinv.erase i) (List.cons_perm_iff_perm_erase.1 horder).2]
    rfl

/-- The DMA agent carries a transfer out, whatever the order of its moves. -/
theorem runEvents_dmaSchedule {s : State} {x : Xfer} {order : List Nat} (hx : s.xfer = some x)
    (hinv : x.Inv s.cfg.capacity) (horder : order.Perm x.todo) :
    runEvents (dmaSchedule order) s = .next (s.movedAll x order).completeTransfer := by
  have hcomplete : runEvent .dmaComplete (s.movedAll x order) =
      .next (s.movedAll x order).completeTransfer :=
    State.dmaComplete_eq (s.movedAll_xfer x order) rfl
  rw [dmaSchedule, runEvents_append _ _ (runEvents_moves hx hinv horder),
    runEvents_cons _ hcomplete]
  rfl

/-- The state after a COPY_BLOCK whose bytes were moved in the order given and completed. -/
def State.copied (s : State) (order : List Nat) : State :=
  { s with
    store := s.store.copyBytes (s.slot s.dma.src).cur.toNat (s.slot s.dma.dst).cur.toNat order
    xfer := none
    rdata := none }.irqRaise causeDmaComplete

theorem State.copied_memRead (s : State) (order : List Nat) (a : Nat) :
    (s.copied order).memRead a =
      (s.store.copyBytes (s.slot s.dma.src).cur.toNat (s.slot s.dma.dst).cur.toNat order).read a :=
  rfl

theorem State.copied_onlyChanges (s : State) (order : List Nat) :
    OnlyChanges [.store, .xfer, .irq] s (s.copied order) :=
  (onlyChanges_iff _ _ _).2 (by simp [State.copied, State.slot])

/-- An accepted copy runs to its completion whatever the order of its moves (rule R216, rule R218). -/
theorem runEvents_copy {s : State} {order : List Nat} (hcount : 1 ≤ s.dma.count.toNat)
    (hsrc : (s.slot s.dma.src).cur.toNat + s.dma.count.toNat ≤ s.cfg.capacity)
    (hdst : (s.slot s.dma.dst).cur.toNat + s.dma.count.toNat ≤ s.cfg.capacity)
    (hidle : s.status.dmaActive = false) (horder : order.Perm (List.range s.dma.count.toNat)) :
    runEvents (transaction .scmdCopyBlock :: dmaSchedule order) s = .next (s.copied order) := by
  have hstart := runEvent_scmdCopyBlock s
  rw [State.copyBlock_of_idle hcount hsrc hdst hidle] at hstart
  have hstatus : { s.status with dmaActive := false } = s.status := by rw [← hidle]
  rw [runEvents_cons _ hstart, runEvents_dmaSchedule (s := (s.acceptCopy _ _ _).answer none)
    (s.acceptCopy_xfer _ _ _) (.accepted hcount hsrc hdst) horder]
  simp only [State.completeTransfer, State.movedAll, State.answer, State.acceptCopy, hstatus]
  rfl

/-- Settles O48: `runEvents_copy` gives the final state; disjoint ranges share no address, so every
byte moved is the one of the state before. -/
theorem blockCopyCopiesInAnyOrder : Obligations.BlockCopyCopiesInAnyOrder := by
  intro s order hcount hsrc hdst hidle hdisjoint horder
  have hmem (i : Nat) : i ∈ order ↔ i < s.dma.count.toNat :=
    horder.mem_iff.trans List.mem_range
  refine ⟨_, runEvents_copy hcount hsrc hdst hidle horder, fun i hi => ?_, fun a ha => ?_, rfl, rfl,
    rfl, s.copied_onlyChanges order⟩
  · refine Memory.read_copyBytes (fun j hj k hk he => ?_) ((hmem i).2 hi)
    have hj' := (hmem j).1 hj
    have hk' := (hmem k).1 hk
    omega
  · refine Memory.read_copyBytes_other fun j hj => ?_
    have hj' := (hmem j).1 hj
    omega

/-- Settles O49: `runEvents_copy` gives the final state, whose store is a copy of a range onto
itself. -/
theorem copyOntoItselfLeavesTheStore : Obligations.CopyOntoItselfLeavesTheStore := by
  intro s order hcount hsrc hsame hidle horder
  refine ⟨_, runEvents_copy hcount hsrc (hsame ▸ hsrc) hidle horder, fun a => ?_⟩
  rw [State.copied_memRead, hsame]
  exact Memory.read_copyBytes_self a

/-! ### Steps of the DMA agent that are not enabled (rule R217, rule R219) -/

section
variable {s : State} {x : Xfer} {i : Nat}

theorem State.dmaMove_of_idle (h : s.xfer = none) : s.dmaMove i = .refused .stepNotEnabled := by
  simp [State.dmaMove, h]

theorem State.dmaMove_of_notMem (hx : s.xfer = some x) (hi : i ∉ x.todo) :
    s.dmaMove i = .refused .stepNotEnabled := by
  simp [State.dmaMove, hx, hi]

theorem State.dmaComplete_of_idle (h : s.xfer = none) :
    s.dmaComplete = .refused .stepNotEnabled := by
  simp [State.dmaComplete, h]

theorem State.dmaComplete_of_pending (hx : s.xfer = some x) (htodo : x.todo ≠ []) :
    s.dmaComplete = .refused .stepNotEnabled := by
  simp [State.dmaComplete, hx, htodo]

/-- Under the invariant a byte move of an index still to do stays inside the store. -/
theorem State.Inv.dmaMove_cases (h : s.Inv) (i : Nat) :
    (∃ t, s.dmaMove i = .next t) ∨ s.dmaMove i = .refused .stepNotEnabled := by
  cases hx : s.xfer with
  | none => exact .inr (State.dmaMove_of_idle hx)
  | some x =>
    by_cases hi : i ∈ x.todo
    · have hinv := h.xfer_inv x hx
      have hbelow := hinv.todo_below i hi
      have hsrc := hinv.src_inside
      have hdst := hinv.dst_inside
      exact .inl ⟨_, State.dmaMove_eq hx hi (by omega) (by omega)⟩
    · exact .inr (State.dmaMove_of_notMem hx hi)

theorem State.dmaComplete_cases (s : State) :
    (∃ t, s.dmaComplete = .next t) ∨ s.dmaComplete = .refused .stepNotEnabled := by
  cases hx : s.xfer with
  | none => exact .inr (State.dmaComplete_of_idle hx)
  | some x =>
    by_cases htodo : x.todo = []
    · exact .inl ⟨_, State.dmaComplete_eq hx htodo⟩
    · exact .inr (State.dmaComplete_of_pending hx htodo)

/-- Under the invariant an agent's step answers a next state, unless it is a step of the DMA agent
that is not enabled. -/
theorem State.Inv.runEvent_cases (h : s.Inv) (e : Event) :
    (∃ t, runEvent e s = .next t) ∨
    (runEvent e s = .refused .stepNotEnabled ∧ (e = .dmaComplete ∨ ∃ i, e = .dmaMove i)) := by
  cases e with
  | bus T =>
    obtain ⟨u, r, -, hexec⟩ := exec_completes (decodeBus T) s
    exact .inl ⟨_, hexec⟩
  | dmaMove i => exact (h.dmaMove_cases i).imp_right fun hr => ⟨hr, .inr ⟨i, rfl⟩⟩
  | dmaComplete => exact s.dmaComplete_cases.imp_right fun hr => ⟨hr, .inl rfl⟩
  | extRaise bits => exact .inl ⟨_, rfl⟩
  | resetInput => exact .inl ⟨_, rfl⟩

end

/-- Settles O54: a step is the idle one or the step of the schedule's first agent, which
`State.Inv.runEvent_cases` covers. -/
theorem invariantStatesNeverFault : Obligations.InvariantStatesNeverFault := by
  intro s hs
  cases hsched : s.schedule with
  | nil => simp [runNext_nil hsched]
  | cons e rest =>
    have hinv : State.Inv { s with schedule := rest } := hs.of_same rfl rfl rfl rfl rfl rfl
    rw [runNext_cons hsched]
    obtain ⟨t, hnext⟩ | ⟨hrefused, he⟩ := hinv.runEvent_cases e
    · simp [hnext]
    · rw [hrefused]
      refine ⟨nofun, fun r hr => ⟨?_, rest, ?_⟩⟩
      · cases hr
        rfl
      · obtain rfl | ⟨i, rfl⟩ := he
        · exact .inl rfl
        · exact .inr ⟨i, rfl⟩

/-- Settles O45: the four refusals of the DMA agent's steps. -/
theorem disabledDmaStepsAreRefused : Obligations.DisabledDmaStepsAreRefused := fun _ =>
  ⟨fun h => ⟨fun _ => State.dmaMove_of_idle h, State.dmaComplete_of_idle h⟩,
    fun _ hx => ⟨fun _ => State.dmaMove_of_notMem hx, State.dmaComplete_of_pending hx⟩⟩

/-! ### One COPY_BLOCK and one step of the DMA agent -/

/-- Settles O39: with a count of 0 the command leaves the state it finds. -/
theorem copyOfZeroBytesIsANoOp : Obligations.CopyOfZeroBytesIsANoOp := by
  intro s hzero
  refine ⟨_, exec_scmdCopyBlock s, ?_⟩
  rw [State.copyBlock_of_zero hzero]
  exact s.acknowledge_onlyChanges

/-- Settles O40: both values of the parameter by the bits of `rejectCopyBounds`. -/
theorem copyOutOfBoundsIsRejected : Obligations.CopyOutOfBoundsIsRejected := by
  intro s hcount hout
  refine ⟨_, exec_scmdCopyBlock s, ?_⟩
  rw [State.copyBlock_of_outside hcount hout]
  exact ⟨State.rejectCopyBounds_of_not_memoryError, State.rejectCopyBounds_of_memoryError,
    s.rejectCopyBounds_onlyChanges.answer none⟩

/-- Settles O41: DMA_ACTIVE set leaves `raise DmaError()`. -/
theorem copyWhileActiveIsRejected : Obligations.CopyWhileActiveIsRejected := by
  intro s hcount hsrc hdst hactive
  refine ⟨_, exec_scmdCopyBlock s, ?_⟩
  rw [State.copyBlock_of_active hcount hsrc hdst hactive]
  exact ⟨rfl, rfl, s.raiseDmaError_onlyChanges.answer none⟩

/-- Settles O42: DMA_ACTIVE clear leaves the acceptance, with the indices 0 to n-1 to do. -/
theorem copyIsAcceptedAndCapturesItsRange : Obligations.CopyIsAcceptedAndCapturesItsRange := by
  intro s hcount hsrc hdst hidle
  have hexec := exec_scmdCopyBlock s
  rw [State.copyBlock_of_idle hcount hsrc hdst hidle] at hexec
  exact ⟨_, _, hexec, rfl, rfl, rfl, rfl, rfl, fun _ => List.mem_range, List.nodup_range,
    (s.acceptCopy_onlyChanges _ _ _).answer none⟩

/-- Settles O43: the byte at any address after a move is `State.memRead_moveByte`, and `todo` has no
second `i`. -/
theorem dmaMoveMovesOneByte : Obligations.DmaMoveMovesOneByte := by
  intro s x i hx hi hnodup hsrc hdst
  refine ⟨_, _, State.dmaMove_eq hx hi hsrc hdst, ?_, fun a ha => ?_, rfl, rfl, rfl, rfl, fun j => ?_,
    s.moveByte_onlyChanges x i⟩
  · rw [State.memRead_moveByte, if_pos rfl]
  · rw [State.memRead_moveByte, if_neg ha.symm]
  · exact hnodup.mem_erase_iff.trans and_comm

/-- Cause bit 2 is set after a completion, so that the line follows where it is unmasked and the
enable is on (rule R219, rule R318). -/
theorem State.completeTransfer_irqLine {s : State} (hmask : s.irq.mask.getLsbD 2 = true)
    (henable : s.irq.enable = true) : s.completeTransfer.irqLine = true := by
  refine (irqLineFollowsCauseMaskAndEnable _).2 ⟨henable, 2, by decide, ?_, hmask⟩
  simp [causeDmaComplete]

/-- Settles O44: a completion answers only for an empty `todo`, and then with
`completeTransfer`. -/
theorem dmaCompleteEndsTheTransfer : Obligations.DmaCompleteEndsTheTransfer := by
  refine fun s => ⟨fun x hx htodo => ⟨_, State.dmaComplete_eq hx htodo, rfl, rfl, rfl,
    State.completeTransfer_irqLine, s.completeTransfer_onlyChanges⟩, fun hpending t h => ?_⟩
  obtain ⟨x, hx, htodo, -⟩ := State.dmaComplete_next h
  exact hpending x hx htodo

end Sys2Proof.Machine

namespace Sys2Proof

/-! ### The fields of a bus address as numbers (rule R101, rule R242) -/

/-- Bit 7, which selects the space, is set from 0x80 on. -/
theorem getLsbD_seven_eq_decide (addr : Byte) : addr.getLsbD 7 = decide (0x80 ≤ addr.toNat) :=
  BitVec.msb_eq_decide addr

/-- The field of `len` bits from bit `start` on, by a quotient and a remainder. -/
theorem extractLsb'_eq_ofNat_div_mod (start len : Nat) (addr : Byte) :
    addr.extractLsb' start len = BitVec.ofNat len (addr.toNat / 2 ^ start % 2 ^ len) := by
  apply BitVec.eq_of_toNat_eq
  simp [BitVec.extractLsb'_toNat, Nat.shiftRight_eq_div_pow]

theorem decodeAddr_of_lt {addr : Byte} (h : addr.toNat < 0x80) :
    decodeAddr addr =
      .window (BitVec.ofNat 3 (addr.toNat / 16)) (BitVec.ofNat 4 (addr.toNat % 16)) := by
  have hbit : ¬ addr.getLsbD 7 = true := by rw [getLsbD_seven_eq_decide, decide_eq_true_iff]; omega
  have hw : addr.toNat / 2 ^ 4 % 2 ^ 3 = addr.toNat / 16 := by omega
  have hoff : addr.toNat / 2 ^ 0 % 2 ^ 4 = addr.toNat % 16 := by omega
  rw [decodeAddr, if_neg hbit, extractLsb'_eq_ofNat_div_mod, extractLsb'_eq_ofNat_div_mod, hw, hoff]

theorem decodeAddr_of_ge {addr : Byte} (h : 0x80 ≤ addr.toNat) :
    decodeAddr addr = .shared (BitVec.ofNat 7 (addr.toNat % 128)) := by
  have hbit : addr.getLsbD 7 = true := by rwa [getLsbD_seven_eq_decide, decide_eq_true_iff]
  have hsreg : addr.toNat / 2 ^ 0 % 2 ^ 7 = addr.toNat % 128 := by omega
  rw [decodeAddr, if_pos hbit, extractLsb'_eq_ofNat_div_mod, hsreg]

/-- Settles O5: below 0x80 bit 7 is clear, from 0x80 on it is set, and the examples of rule R242 are
the addresses of registers. -/
theorem addressDecodesByItsFields : Obligations.AddressDecodesByItsFields :=
  ⟨fun _ => ⟨decodeAddr_of_lt, decodeAddr_of_ge⟩, decodeAddr_windowAddr 1#2 1#4,
    decodeAddr_sharedAddr 0x70#7, decodeAddr_windowAddr 3#2 4#4,
    decodeAddr_reservedWindowAddr 0x3F#6, decodeAddr_sharedAddr 0x7F#7⟩

end Sys2Proof

namespace Sys2Proof.Machine

/-! ### Reads of write-only registers and of reserved addresses (rule R244, rule R245, rule R246,
rule R268, rule R292) -/

/-- Settles O13: the meaning of each of the five rows is to reply 0x00. -/
theorem writeOnlyAndReservedAddressesReadZero :
    Obligations.WriteOnlyAndReservedAddressesReadZero := by
  intro s w off low sreg i hi
  have hexec : exec i s = .next (s.reply 0x00#8) := by
    simp only [List.mem_cons, List.not_mem_nil, or_false] at hi
    obtain rfl | rfl | rfl | rfl | rfl := hi <;> rfl
  exact ⟨_, hexec, s.reply_rdata _, s.reply_onlyChanges _⟩

end Sys2Proof.Machine

namespace Sys2Proof.Machine

/-! ### The windows after an operation (rule R270, rule R271) -/

@[simp] theorem State.engineRead_win (s : State) (k : SlotIx) : (s.engineRead k).win = s.win := by
  obtain ⟨-, h, -⟩ | ⟨-, h, -⟩ := s.engineRead_cases k <;> simp [h]

@[simp] theorem State.engineWrite_win (s : State) (k : SlotIx) (b : Byte) :
    (s.engineWrite k b).win = s.win := by
  obtain ⟨-, h⟩ | ⟨-, h⟩ := s.engineWrite_cases k b <;> simp [h]

@[simp] theorem State.copyBlock_win (s : State) : s.copyBlock.win = s.win := by
  obtain h | h | h | ⟨-, -, -, h⟩ := s.copyBlock_outcomes <;> simp [h]

theorem State.setWindow_win_other (s : State) {w : WindowNo} (x : Window) {j : Fin 8}
    (h : windowIx w ≠ j) : (s.setWindow w x).win[j] = s.win[j] := by
  rw [State.win_setWindow, if_neg h]

/-- Replacing window `w` changes no other window and no other part. -/
theorem State.setWindow_onlyChangesWindow (s : State) (w : WindowNo) (x : Window) :
    OnlyChangesWindow w s (s.setWindow w x) :=
  ⟨by simp [onlyChanges_iff], fun _ hj => s.setWindow_win_other x hj.symm⟩

/-- The instructions that change window `j`: the writes of its own two select registers, and
SYSTEM_RESET. FACTORY_RESET is not among them (decision D14). -/
theorem Effect.win_changed {s u : State} {i : Instr} (h : Effect s i u) {j : Fin 8}
    (hj : u.win[j] ≠ s.win[j]) :
    i = .scmdSystemReset ∨
      ∃ w b, windowIx w = j ∧ (i = .wrIdxSelect w b ∨ i = .wrCfgFieldSelect w b) := by
  have kept : ¬ u.win = s.win := fun hwin => hj (by rw [hwin])
  cases h with
  | systemReset => exact .inl rfl
  | selectSlot w b => exact .inr ⟨w, b, not_imp_comm.1 (s.setWindow_win_other _) hj, .inl rfl⟩
  | selectField w b => exact .inr ⟨w, b, not_imp_comm.1 (s.setWindow_win_other _) hj, .inr rfl⟩
  | dataRead w => exact absurd (s.engineRead_win _) kept
  | dataWrite w b => exact absurd (s.engineWrite_win _ b) kept
  | copyBlock => exact absurd s.copyBlock_win kept
  | _ => exact absurd rfl kept

/-- Settles O58: the DMA agent and the external sources leave the windows, and `Effect.win_changed`
covers the transactions. -/
theorem windowStateChangesOnlyByItsOwnRegisters :
    Obligations.WindowStateChangesOnlyByItsOwnRegisters := by
  intro s t e j h hj
  cases runEvent_next h with
  | resetInput => exact .inl rfl
  | dmaMove | dmaComplete | extRaise => exact absurd rfl hj
  | bus r hT hu =>
    obtain hi | ⟨w, b, hw, rfl | rfl⟩ := hu.win_changed hj
    · exact .inr (.inl (bus_eq_word hT hi rfl))
    · exact .inr (.inr ⟨w, b, hw, .inl (bus_eq_word hT rfl (busRw_busWord true _ b))⟩)
    · exact .inr (.inr ⟨w, b, hw, .inr (bus_eq_word hT rfl (busRw_busWord true _ b))⟩)

/-! ### The select registers of a window (rule R260, rule R261, rule R264, rule R265) -/

/-- A write whose meaning is to replace window `w` leaves that window, and changes only it. -/
theorem replaces_window {i : Instr} {w : WindowNo} {s : State} {x : Window}
    (hexec : exec i s = .next (s.setWindow w x).acknowledge) :
    ∃ t, exec i s = .next t ∧ t.window w = x ∧ OnlyChangesWindow w s t := by
  obtain ⟨hparts, hwindows⟩ := s.setWindow_onlyChangesWindow w x
  exact ⟨_, hexec, s.window_setWindow_same w x, hparts.answer none, hwindows⟩

/-- An instruction that is no SYSTEM_RESET and no write of a select register completes with every
window as before. -/
theorem exec_keeps_windows {i : Instr} (s : State) (hsystem : i ≠ .scmdSystemReset)
    (hidx : ∀ w b, i ≠ .wrIdxSelect w b) (hfield : ∀ w b, i ≠ .wrCfgFieldSelect w b) :
    ∃ t, exec i s = .next t ∧ ∀ j : Fin 8, t.win[j] = s.win[j] := by
  obtain ⟨u, r, hu, hexec⟩ := exec_completes i s
  refine ⟨u.answer r, hexec, fun j => ?_⟩
  by_contra hj
  obtain hi | ⟨w, b, -, hi | hi⟩ := hu.win_changed hj
  · exact hsystem hi
  · exact hidx w b hi
  · exact hfield w b hi

/-- Settles O11: the read replies `active`, the write replaces it in its window. -/
theorem idxSelectReadsAndSetsActive : Obligations.IdxSelectReadsAndSetsActive := fun s _ _ =>
  ⟨⟨_, rfl, rfl, s.reply_onlyChanges _⟩, replaces_window rfl⟩

/-- Settles O12: the read replies `field`, the write replaces it in its window, and CFG_DATA is none
of the instructions that change a window. -/
theorem cfgFieldSelectReadsAndSetsField : Obligations.CfgFieldSelectReadsAndSetsField :=
  fun s _ _ => ⟨⟨_, rfl, rfl, s.reply_onlyChanges _⟩, replaces_window rfl,
    exec_keeps_windows s nofun nofun nofun, exec_keeps_windows s nofun nofun nofun⟩

end Sys2Proof.Machine

namespace Sys2Proof.Machine

/-! ### The registers of the interrupt state (rule R282 to rule R291) -/

/-- Replacing the interrupt state changes no other part. The writes of the five registers are this
operation, each with its own new state. -/
theorem State.setIrq_onlyChanges (s : State) (q : Irq) :
    OnlyChanges [.irq] s { s with irq := q } := by
  refine ⟨rfl, rfl, fun p hp => ?_⟩
  cases p with
  | irq => exact absurd (List.mem_singleton_self _) hp
  | slots | win | store => exact fun _ => rfl
  | dma | status | xfer => rfl

/-- A write whose meaning is to replace the interrupt state leaves that state and changes only it. -/
theorem replaces_irq {i : Instr} {s : State} {q : Irq}
    (hexec : exec i s = .next (State.acknowledge { s with irq := q })) :
    ∃ t, exec i s = .next t ∧ t.irq = q ∧ OnlyChanges [.irq] s t :=
  ⟨_, hexec, rfl, (s.setIrq_onlyChanges q).answer none⟩

/-- In the low half the acknowledge clears the places that hold 1 in `b` (rule R332). -/
theorem getLsbD_acknowledgeLow_of_lt (h : Half) (b : Byte) {n : Nat} (hn : n < 8) :
    (withLowByte h (lowByte h &&& ~~~b)).getLsbD n = (h.getLsbD n && !b.getLsbD n) := by
  simp [getLsbD_acknowledgeLow, hn]

theorem getLsbD_acknowledgeLow_of_ge (h : Half) (b : Byte) {n : Nat} (hn : 8 ≤ n) :
    (withLowByte h (lowByte h &&& ~~~b)).getLsbD n = h.getLsbD n := by
  simp [getLsbD_acknowledgeLow, hn.not_gt]

theorem getLsbD_acknowledgeHigh_of_lt (h : Half) (b : Byte) {n : Nat} (hn : n < 8) :
    (withHighByte h (highByte h &&& ~~~b)).getLsbD n = h.getLsbD n := by
  simp [getLsbD_acknowledgeHigh, hn.not_ge]

/-- In the high half bit `n` of `b` is for cause bit `8 + n` (rule R285). -/
theorem getLsbD_acknowledgeHigh_eight_add (h : Half) (b : Byte) (n : Nat) :
    (withHighByte h (highByte h &&& ~~~b)).getLsbD (8 + n) =
      (h.getLsbD (8 + n) && !b.getLsbD n) := by
  simp [getLsbD_acknowledgeHigh]

/-- Settles O31: the reads reply the byte of `cause` itself, and each write replaces the interrupt
state by itself with its byte of `cause` acknowledged. -/
theorem irqCauseReadsRawAndClearsBitsWrittenOne :
    Obligations.IrqCauseReadsRawAndClearsBitsWrittenOne := by
  intro s b
  obtain ⟨low, hexecLow, hirqLow, hframeLow⟩ := replaces_irq (i := .wrIrqCauseLow b) (s := s) rfl
  obtain ⟨high, hexecHigh, hirqHigh, hframeHigh⟩ :=
    replaces_irq (i := .wrIrqCauseHigh b) (s := s) rfl
  refine ⟨⟨_, rfl, rfl, s.reply_onlyChanges _⟩, ⟨_, rfl, rfl, s.reply_onlyChanges _⟩,
    ⟨low, hexecLow, ?_⟩, ⟨high, hexecHigh, ?_⟩⟩
  · rw [hirqLow]
    exact ⟨fun _ => getLsbD_acknowledgeLow_of_lt _ b, fun _ => getLsbD_acknowledgeLow_of_ge _ b,
      rfl, rfl, hframeLow⟩
  · rw [hirqHigh]
    exact ⟨fun _ => getLsbD_acknowledgeHigh_of_lt _ b,
      fun n _ => getLsbD_acknowledgeHigh_eight_add _ b n, rfl, rfl, hframeHigh⟩

/-- Settles O32: the reads reply the byte of `mask`, and each write replaces the interrupt state by
itself with that byte of `mask` replaced. -/
theorem irqMaskBytesReadAndWrite : Obligations.IrqMaskBytesReadAndWrite := fun s _ =>
  ⟨⟨_, rfl, rfl, s.reply_onlyChanges _⟩, ⟨_, rfl, rfl, s.reply_onlyChanges _⟩,
    replaces_irq rfl, replaces_irq rfl⟩

/-- Settles O33: the reply is chosen by `enable`, and the write replaces `enable` by the test of its
byte against 0x00. -/
theorem irqEnableNormalises : Obligations.IrqEnableNormalises := by
  intro s b
  obtain ⟨t, hexec, hirq, hframe⟩ := replaces_irq (i := .wrIrqEnable b) (s := s) rfl
  refine ⟨⟨_, rfl, s.reply_onlyChanges _, fun on => ?_, fun off => ?_⟩, ⟨t, hexec, ?_⟩⟩
  · simp [on]
  · simp [off]
  · rw [hirq]
    exact ⟨bne_iff_ne, rfl, rfl, hframe⟩

end Sys2Proof.Machine

namespace Sys2Proof.Machine

/-! ### Where a cause bit is raised (rule R320, rule R323, rule R324, rule R325) -/

@[simp] theorem getLsbD_causeMemoryError (n : Nat) :
    causeMemoryError.getLsbD n = decide (n = 0) := by
  rw [show causeMemoryError = BitVec.twoPow 16 0 from rfl, BitVec.getLsbD_twoPow]
  simp [eq_comm]

@[simp] theorem getLsbD_causeDmaComplete (n : Nat) :
    causeDmaComplete.getLsbD n = decide (n = 2) := by
  rw [show causeDmaComplete = BitVec.twoPow 16 2 from rfl, BitVec.getLsbD_twoPow]
  simp [eq_comm]

@[simp] theorem getLsbD_causeDmaError (n : Nat) :
    causeDmaError.getLsbD n = decide (n = 3) := by
  rw [show causeDmaError = BitVec.twoPow 16 3 from rfl, BitVec.getLsbD_twoPow]
  simp [eq_comm]

/-- From `s` to `t` cause bit `n` rises. -/
def CauseRaised (n : Nat) (s t : State) : Prop :=
  s.irq.cause.getLsbD n = false ∧ t.irq.cause.getLsbD n = true

section
variable {s t u : State} {n : Nat}

theorem CauseRaised.irq_ne (h : CauseRaised n s t) : t.irq ≠ s.irq := by
  obtain ⟨hclear, hset⟩ := h
  intro heq
  rw [heq, hclear] at hset
  cases hset

/-- A state whose cause bits are among those of `s` has raised none of them. -/
theorem not_causeRaised_of_causeKept (h : CauseKept t s) : ¬ CauseRaised n s t := by
  rintro ⟨hclear, hset⟩
  rw [h n hset] at hclear
  cases hclear

/-- With every cause bit clear none has been raised. -/
theorem not_causeRaised_of_zero (h : t.irq.cause = 0x0000#16) : ¬ CauseRaised n s t := by
  rintro ⟨-, hset⟩
  rw [h, BitVec.getLsbD_zero] at hset
  cases hset

/-- `irq_raise(bits)` raises no bit that is not named (rule R311). -/
theorem CauseRaised.of_irqRaise {bits : Half} (h : CauseRaised n s (s.irqRaise bits)) :
    bits.getLsbD n = true := by
  obtain ⟨hclear, hset⟩ := h
  simpa [hclear] using hset

theorem CauseRaised.of_raiseMemoryError (h : CauseRaised n s s.raiseMemoryError) : n = 0 := by
  obtain ⟨hclear, hset⟩ := h
  simpa [hclear] using hset

theorem CauseRaised.of_raiseDmaError (h : CauseRaised n s s.raiseDmaError) : n = 3 := by
  obtain ⟨hclear, hset⟩ := h
  simpa [hclear] using hset

theorem CauseRaised.of_raiseBothErrors
    (h : CauseRaised n s s.raiseDmaError.raiseMemoryError) : n = 3 ∨ n = 0 := by
  obtain ⟨hclear, hset⟩ := h
  simpa [hclear] using hset

theorem CauseRaised.of_completeTransfer (h : CauseRaised n s s.completeTransfer) : n = 2 := by
  obtain ⟨hclear, hset⟩ := h
  simpa [hclear] using hset

/-- An indexed read raises a bit only out of bounds (rule R131). -/
theorem CauseRaised.of_engineRead {k : SlotIx} (h : CauseRaised n s (s.engineRead k)) :
    n = 0 ∧ s.cfg.capacity ≤ (s.slot k).cur.toNat := by
  obtain ⟨-, hr, -⟩ | ⟨hout, hr, -⟩ := s.engineRead_cases k <;> rw [hr] at h
  · exact absurd rfl h.irq_ne
  · exact ⟨h.of_raiseMemoryError, hout⟩

/-- An indexed write raises a bit only out of bounds (rule R132). -/
theorem CauseRaised.of_engineWrite {k : SlotIx} {b : Byte}
    (h : CauseRaised n s (s.engineWrite k b)) :
    n = 0 ∧ s.cfg.capacity ≤ (s.slot k).cur.toNat := by
  obtain ⟨-, hw⟩ | ⟨hout, hw⟩ := s.engineWrite_cases k b <;> rw [hw] at h
  · exact absurd rfl h.irq_ne
  · exact ⟨h.of_raiseMemoryError, hout⟩

/-- A rejection for its range raises bit 3, and bit 0 under the parameter that says so (rule R212). -/
theorem CauseRaised.of_rejectCopyBounds (h : CauseRaised n s s.rejectCopyBounds) :
    n = 3 ∨ n = 0 ∧ s.cfg.copyOobRaisesMemoryError = true := by
  obtain ⟨-, hr⟩ | ⟨hparam, hr⟩ := s.rejectCopyBounds_cases <;> rw [hr] at h
  · exact .inl h.of_raiseDmaError
  · exact h.of_raiseBothErrors.imp_right fun h0 => ⟨h0, hparam⟩

/-- `COPY_BLOCK()` raises a bit only where it rejects the copy (rule R210). -/
theorem CauseRaised.of_copyBlock (h : CauseRaised n s s.copyBlock) :
    n = 3 ∨ n = 0 ∧ s.cfg.copyOobRaisesMemoryError = true := by
  obtain ⟨-, hc⟩ | ⟨-, -, hc⟩ | ⟨-, -, -, ⟨-, hc⟩ | ⟨-, hc⟩⟩ := s.copyBlock_cases <;> rw [hc] at h
  · exact absurd rfl h.irq_ne
  · exact h.of_rejectCopyBounds
  · exact .inl h.of_raiseDmaError
  · exact absurd rfl h.irq_ne

/-- An acknowledge leaves no cause bit that was not set before (rule R312). -/
theorem State.causeKept_irqAcknowledgeLow (s : State) (b : Byte) :
    CauseKept (s.irqAcknowledgeLow b) s := by
  intro m hm
  rw [State.irqAcknowledgeLow_irq, getLsbD_acknowledgeLow, Bool.and_eq_true] at hm
  exact hm.1

/-- An acknowledge leaves no cause bit that was not set before (rule R313). -/
theorem State.causeKept_irqAcknowledgeHigh (s : State) (b : Byte) :
    CauseKept (s.irqAcknowledgeHigh b) s := by
  intro m hm
  rw [State.irqAcknowledgeHigh_irq, getLsbD_acknowledgeHigh, Bool.and_eq_true] at hm
  exact hm.1

/-- The instructions that raise a cause bit: COPY_BLOCK, and the accesses of a DATA_PORT whose slot
points outside the store. -/
theorem Effect.cause_raised {i : Instr} (h : Effect s i u) (hr : CauseRaised n s u) :
    i = .scmdCopyBlock ∧ (n = 3 ∨ n = 0 ∧ s.cfg.copyOobRaisesMemoryError = true) ∨
    n = 0 ∧ ∃ w, busAddr i.word = windowAddr w 1#4 ∧
      s.cfg.capacity ≤ (s.activeSlot w).cur.toNat := by
  cases h with
  | copyBlock => exact .inl ⟨rfl, hr.of_copyBlock⟩
  | dataRead w =>
    obtain ⟨h0, hout⟩ := hr.of_engineRead
    exact .inr ⟨h0, w, by simp [Instr.word], hout⟩
  | dataWrite w b =>
    obtain ⟨h0, hout⟩ := hr.of_engineWrite
    exact .inr ⟨h0, w, by simp [Instr.word], hout⟩
  | acknowledgeLow b =>
    exact absurd hr (not_causeRaised_of_causeKept (s.causeKept_irqAcknowledgeLow b))
  | acknowledgeHigh b =>
    exact absurd hr (not_causeRaised_of_causeKept (s.causeKept_irqAcknowledgeHigh b))
  | factoryReset | clearIrq | systemReset => exact absurd hr (not_causeRaised_of_zero rfl)
  | _ => exact absurd hr (not_causeRaised_of_causeKept fun _ => id)

end

/-- Settles O57: EXT.RAISE raises bits that it names, DMA.COMPLETE bit 2, a byte move and the reset
input none, and `Effect.cause_raised` covers the transactions. -/
theorem causeBitsAreRaisedOnlyByTheirSources :
    Obligations.CauseBitsAreRaisedOnlyByTheirSources := by
  intro s t e n h hclear hset
  have hr : CauseRaised n s t := ⟨hclear, hset⟩
  cases runEvent_next h with
  | extRaise bits => exact .inl ⟨bits, rfl, hr.of_irqRaise⟩
  | dmaComplete => exact .inr (.inl ⟨hr.of_completeTransfer, rfl⟩)
  | dmaMove => exact absurd rfl hr.irq_ne
  | resetInput => exact absurd hr (not_causeRaised_of_zero rfl)
  | @bus T i u r hT hu =>
    have hru : CauseRaised n s u := hr
    obtain ⟨hi, rfl | ⟨rfl, hparam⟩⟩ | ⟨rfl, w, haddr, hout⟩ := hu.cause_raised hru
    · exact .inr (.inr (.inl ⟨rfl, bus_eq_word hT hi rfl⟩))
    · exact .inr (.inr (.inr ⟨rfl, .inl ⟨bus_eq_word hT hi rfl, hparam⟩⟩))
    · have hT' : busAddr T = windowAddr w 1#4 := (busAddr_of_decodeBus hT).trans haddr
      exact .inr (.inr (.inr ⟨rfl, .inr ⟨T, w, rfl, hT', hout⟩⟩))

/-! ### The external sources and the reset input (rule R311, rule R322, rule R360) -/

/-- Settles O46: the raise replaces the interrupt state by itself with the named bits or-ed into
`cause`. -/
theorem externalRaiseSetsItsCauseBits : Obligations.ExternalRaiseSetsItsCauseBits :=
  fun s _ => ⟨_, rfl, fun _ => BitVec.getLsbD_or, rfl, rfl, s.setIrq_onlyChanges _⟩

/-- `RESET()` and the end of a step that returns nothing leave the reset state, but for the
schedule. -/
theorem State.hardReset_acknowledge (s : State) :
    s.hardReset.acknowledge = { State.initial s.cfg with schedule := s.schedule } := rfl

/-- Settles O47: the reset input is `RESET()` with nothing returned. -/
theorem resetInputGivesTheResetState : Obligations.ResetInputGivesTheResetState :=
  fun s => congrArg Host.Outcome.next s.hardReset_acknowledge

/-! ### TESTCFG (rule R364) -/

theorem testcfg_layout_get (k : Fin 256) : testcfg.layout[k] = testLayoutEntry k := by
  simp [testcfg]

/-- The regions of TESTCFG fill the store up to CAPACITY. -/
theorem testcfg_layoutUsable : testcfg.layoutUsable := by
  intro e he
  have rows : testcfg.layout.toList = (List.range 256).map testLayoutEntry := rfl
  rw [rows] at he
  obtain ⟨k, hk, rfl⟩ := List.mem_map.1 he
  have hk256 : k < 256 := List.mem_range.1 hk
  have hcap : testcfg.capacity = 0x010000 := rfl
  rw [testLayoutEntry_regionEnd, hcap]
  simp only [testLayoutEntry, BitVec.toNat_ofNat]
  omega

/-- Settles O51: the roles are those of the two halves of `testLayoutEntry`. -/
theorem testLayoutMeetsTheLayoutConstraints : Obligations.TestLayoutMeetsTheLayoutConstraints := by
  refine ⟨rfl, testcfg_admissible, testcfg_layoutUsable, fun k hk => ?_, fun k hk => ?_⟩
  · rw [testcfg_layout_get, testLayoutEntry_of_lt hk]
  · rw [testcfg_layout_get, testLayoutEntry_of_ge hk]

end Sys2Proof.Machine
